-- ==== Sys2Proof/Word.lean ====
section
/-! DEFINITION. The word types of the block: bytes, 3-bit bit offsets and 32-bit command and response words. -/

namespace Sys2Proof

/-- A byte (00_scope.md R9): an unsigned integer in 0..255; value bit `p` is `v.getLsbD p`. -/
abbrev Byte := BitVec 8

/-- A bit offset (10_state.md R21, R31): unsigned, 3 bits, every value legal. -/
abbrev Offset := BitVec 3

/-- A command word or a response word (30_encoding.md R80, R90): 32 bits. -/
abbrev Word := BitVec 32

/-- A 16-bit unsigned quantity: the staging capacity `w_cap` (10_state.md R34). -/
abbrev Half := BitVec 16

end Sys2Proof
end

