-- ==== Sys2Proof/Syntax.lean ====
section
/-! DEFINITION. The commands of both engines (30_encoding.md R86), one constructor per row of spec/opcode_table.json. -/

namespace Sys2Proof

/-- The unit `U` a command word names, and the kind of engine a command port belongs to (30_encoding.md R80). -/
inductive Engine where
  | reader
  | writer
  deriving DecidableEq, Repr

/-- A decoded command. Counts and lengths are plain numbers, whose encodable range `Instr.wellFormed` checks. -/
inductive Instr where
  | rNew
  | rReadBit
  | rReadBits (count : Nat)
  | rIsAligned
  | rAlign
  | rGetRef
  | rGetMut
  | rGetMutUnchecked
  | rIntoInner
  | rRead (len : Nat)
  | rDrop
  | wNew (len : Nat)
  | wWriteBit (bit : Bool)
  | wWriteBits (bits : Byte) (count : Nat)
  | wIsAligned
  | wAlign
  | wGetRef
  | wGetMut
  | wGetMutUnchecked
  | wIntoInner
  | wWrite (len : Nat)
  | wFlush
  | wDrop
  deriving DecidableEq, Repr

/-- The engine a command belongs to: the `U` column of 30_encoding.md R86. -/
def Instr.engine : Instr → Engine
  | .rNew => .reader
  | .rReadBit => .reader
  | .rReadBits _ => .reader
  | .rIsAligned => .reader
  | .rAlign => .reader
  | .rGetRef => .reader
  | .rGetMut => .reader
  | .rGetMutUnchecked => .reader
  | .rIntoInner => .reader
  | .rRead _ => .reader
  | .rDrop => .reader
  | .wNew _ => .writer
  | .wWriteBit _ => .writer
  | .wWriteBits _ _ => .writer
  | .wIsAligned => .writer
  | .wAlign => .writer
  | .wGetRef => .writer
  | .wGetMut => .writer
  | .wGetMutUnchecked => .writer
  | .wIntoInner => .writer
  | .wWrite _ => .writer
  | .wFlush => .writer
  | .wDrop => .writer

end Sys2Proof
end

