-- ==== Sys2Proof/WellFormed.lean ====
section
/-! DEFINITION. Which commands a command word can carry: the operand ranges of 30_encoding.md R82 to R85. -/

namespace Sys2Proof

/-- `CNT` is four bits (30_encoding.md R82): 0 to 15 encode, although only 0 to 8 are accepted at execution. -/
def countFits (count : Nat) : Bool := decide (count ≤ 15)

/-- `LEN` is sixteen bits (30_encoding.md R85): 0 to 65535. -/
def lenFits (len : Nat) : Bool := decide (len ≤ 65535)

/-- Every operand of the command fits its field. -/
def Instr.wellFormed : Instr → Bool
  | .rNew => true
  | .rReadBit => true
  | .rReadBits count => countFits count
  | .rIsAligned => true
  | .rAlign => true
  | .rGetRef => true
  | .rGetMut => true
  | .rGetMutUnchecked => true
  | .rIntoInner => true
  | .rRead len => lenFits len
  | .rDrop => true
  | .wNew len => lenFits len
  | .wWriteBit _ => true
  | .wWriteBits _ count => countFits count
  | .wIsAligned => true
  | .wAlign => true
  | .wGetRef => true
  | .wGetMut => true
  | .wGetMutUnchecked => true
  | .wIntoInner => true
  | .wWrite len => lenFits len
  | .wFlush => true
  | .wDrop => true

end Sys2Proof
end

