-- ==== Sys2Proof/Decode.lean ====
section
/-! DEFINITION. Decoding a command word, total and rejecting by name (30_encoding.md R80 to R89), and then the encoder
written from the same formats. -/

namespace Sys2Proof

/-- Why a command word is illegal (30_encoding.md R88). The response does not carry the reason: `DETAIL` is 0
(DESIGN CHOICE, safe: log entry 19). -/
inductive Illegal where
  /-- `U` does not name the engine that received the word. -/
  | wrongUnit
  /-- A 1 in `CMD[7:5]` or `CMD[15:12]`. -/
  | reservedBits
  /-- No row of 30_encoding.md R86 has this `OP` in this unit. -/
  | unusedOpcode
  /-- A 1 in a field that the row's format requires to be 0. -/
  | operandField
  deriving DecidableEq, Repr

/-! ## Fields of the command word (30_encoding.md R80, R94) -/

/-- `OP = CMD[3:0]`. -/
def opField (w : Word) : Nat := (w.extractLsb' 0 4).toNat

/-- `U = CMD[4]`: 0 is the reader, 1 the writer. -/
def unitField (w : Word) : Engine := if w.getLsbD 4 then .writer else .reader

/-- `CMD[7:5]` and `CMD[15:12]` are both 0. -/
def reservedClear (w : Word) : Bool := w.extractLsb' 5 3 == 0#3 && w.extractLsb' 12 4 == 0#4

/-- `CNT = CMD[11:8]`, zero-extended. -/
def cntField (w : Word) : Nat := (w.extractLsb' 8 4).toNat

/-- `LEN = IMM16 = CMD[31:16]`. -/
def lenField (w : Word) : Nat := (w.extractLsb' 16 16).toNat

/-- `BITS = CMD[23:16]`. -/
def bitsField (w : Word) : Byte := w.extractLsb' 16 8

/-- `BIT = CMD[16]`. -/
def bitField (w : Word) : Bool := w.getLsbD 16

/-! ## Formats -/

/-- Format N (R81): `CNT = 0` and `IMM16 = 0`. -/
def formatN (w : Word) (i : Instr) : Except Illegal Instr :=
  if cntField w = 0 ∧ lenField w = 0 then .ok i else .error .operandField

/-- Format C (R82): `CNT` is the count, `IMM16 = 0`. -/
def formatC (w : Word) (i : Nat → Instr) : Except Illegal Instr :=
  if lenField w = 0 then .ok (i (cntField w)) else .error .operandField

/-- Format D (R83): `CNT` is the count, `IMM16[7:0]` the data byte, `IMM16[15:8] = 0`. -/
def formatD (w : Word) (i : Byte → Nat → Instr) : Except Illegal Instr :=
  if w.extractLsb' 24 8 = 0#8 then .ok (i (bitsField w) (cntField w)) else .error .operandField

/-- Format B (R84): `IMM16[0]` is the bit, `IMM16[15:1] = 0`, `CNT = 0`. -/
def formatB (w : Word) (i : Bool → Instr) : Except Illegal Instr :=
  if cntField w = 0 ∧ w.extractLsb' 17 15 = 0#15 then .ok (i (bitField w)) else .error .operandField

/-- Format L (R85): `IMM16` is the length, `CNT = 0`. -/
def formatL (w : Word) (i : Nat → Instr) : Except Illegal Instr :=
  if cntField w = 0 then .ok (i (lenField w)) else .error .operandField

/-- The reader's rows of 30_encoding.md R86 by `OP`. -/
def decodeReaderRow (w : Word) : Except Illegal Instr :=
  match opField w with
  | 0x1 => formatN w .rNew
  | 0x2 => formatN w .rReadBit
  | 0x3 => formatC w .rReadBits
  | 0x4 => formatN w .rIsAligned
  | 0x5 => formatN w .rAlign
  | 0x6 => formatN w .rGetRef
  | 0x7 => formatN w .rGetMut
  | 0x8 => formatN w .rGetMutUnchecked
  | 0x9 => formatN w .rIntoInner
  | 0xA => formatL w .rRead
  | 0xC => formatN w .rDrop
  | _ => .error .unusedOpcode

/-- The writer's rows of 30_encoding.md R86 by `OP`. -/
def decodeWriterRow (w : Word) : Except Illegal Instr :=
  match opField w with
  | 0x1 => formatL w .wNew
  | 0x2 => formatB w .wWriteBit
  | 0x3 => formatD w .wWriteBits
  | 0x4 => formatN w .wIsAligned
  | 0x5 => formatN w .wAlign
  | 0x6 => formatN w .wGetRef
  | 0x7 => formatN w .wGetMut
  | 0x8 => formatN w .wGetMutUnchecked
  | 0x9 => formatN w .wIntoInner
  | 0xA => formatL w .wWrite
  | 0xB => formatN w .wFlush
  | 0xC => formatN w .wDrop
  | _ => .error .unusedOpcode

/-- The decoder of the engine `u`'s command port (30_encoding.md R88, R89): total on every 32-bit word. -/
def decode (u : Engine) (w : Word) : Except Illegal Instr :=
  if unitField w ≠ u then .error .wrongUnit
  else if reservedClear w = false then .error .reservedBits
  else
    match u with
    | .reader => decodeReaderRow w
    | .writer => decodeWriterRow w

/-- How many data-in bytes are framed behind a word given to a writer (30_encoding.md R87, R88): it depends on `U` and
`OP` alone, so that an illegal `W_WRITE` word is framed like a legal one. -/
def frameLength (w : Word) : Nat :=
  if unitField w = .writer ∧ opField w = 0xA then lenField w else 0

/-- The host's fixed entry: the instruction read from the numbered bits `w` of a row of the opcode table, given to the
engine that its own `U` bit names. -/
def decodeTableWord (nbits w : Nat) : Option Instr :=
  let word : Word := BitVec.ofNat 32 (w % 2 ^ nbits)
  match decode (unitField word) word with
  | .ok i => some i
  | .error _ => none

/-! ## The encoder (30_encoding.md R80 to R86) -/

/-- A command word from its fields, high to low: `IMM16`, four zero bits, `CNT`, three zero bits, `U`, `OP`. -/
def commandWord (imm : BitVec 16) (cnt : BitVec 4) (u : BitVec 1) (op : BitVec 4) : Word :=
  imm ++ 0#4 ++ cnt ++ 0#3 ++ u ++ op

/-- The command word of a well-formed command. -/
def encode : Instr → Word
  | .rNew => commandWord 0 0 0 0x1
  | .rReadBit => commandWord 0 0 0 0x2
  | .rReadBits count => commandWord 0 (BitVec.ofNat 4 count) 0 0x3
  | .rIsAligned => commandWord 0 0 0 0x4
  | .rAlign => commandWord 0 0 0 0x5
  | .rGetRef => commandWord 0 0 0 0x6
  | .rGetMut => commandWord 0 0 0 0x7
  | .rGetMutUnchecked => commandWord 0 0 0 0x8
  | .rIntoInner => commandWord 0 0 0 0x9
  | .rRead len => commandWord (BitVec.ofNat 16 len) 0 0 0xA
  | .rDrop => commandWord 0 0 0 0xC
  | .wNew len => commandWord (BitVec.ofNat 16 len) 0 1 0x1
  | .wWriteBit bit => commandWord (0#15 ++ BitVec.ofBool bit) 0 1 0x2
  | .wWriteBits bits count => commandWord (0#8 ++ bits) (BitVec.ofNat 4 count) 1 0x3
  | .wIsAligned => commandWord 0 0 1 0x4
  | .wAlign => commandWord 0 0 1 0x5
  | .wGetRef => commandWord 0 0 1 0x6
  | .wGetMut => commandWord 0 0 1 0x7
  | .wGetMutUnchecked => commandWord 0 0 1 0x8
  | .wIntoInner => commandWord 0 0 1 0x9
  | .wWrite len => commandWord (BitVec.ofNat 16 len) 0 1 0xA
  | .wFlush => commandWord 0 0 1 0xB
  | .wDrop => commandWord 0 0 1 0xC

end Sys2Proof
end

