-- ==== Sys2Proof/Config.lean ====
section
/-! DEFINITION. What an instance of the block fixes (00_scope.md R7, R8) and what the environment is free to answer
(20_memory.md R55): the static parameters, the error values, and the draws of a source or sink port. -/

namespace Sys2Proof

/-- The bit endianness `B` of an engine. Exactly two variants exist and the set is closed (40_policy.md R117). -/
inductive Endian where
  /-- Policy index 0 is value bit 7. -/
  | msbFirst
  /-- Policy index 0 is value bit 0. -/
  | lsbFirst
  deriving DecidableEq, Repr

/-- `STAGING_MODE` (00_scope.md R7): how many bytes one unaligned `W_WRITE` stages. -/
inductive StagingMode where
  /-- At most `w_cap` bytes. -/
  | bounded
  /-- All `LEN` bytes. -/
  | perCall
  deriving DecidableEq, Repr

/-- The static parameters of one instance. No register holds one and no command changes one (00_scope.md R8). -/
structure Params where
  /-- `READER_ENDIAN`. -/
  readerEndian : Endian
  /-- `WRITER_ENDIAN`, independent of `READER_ENDIAN`. -/
  writerEndian : Endian
  /-- `STAGING_MODE`. -/
  stagingMode : StagingMode
  deriving DecidableEq, Repr

/-- A value of the OPEN type `ErrVal` (00_scope.md R7): the error objects a port reports. The block carries one
verbatim and never looks inside (60_exceptions.md R221), so the model names each by a label. -/
structure ErrVal where
  label : Nat
  deriving DecidableEq, Repr

/-- What the environment decides about one request on the source port (20_memory.md R50, R55). -/
inductive SrcDraw where
  /-- Answer with data, at most `n` bytes of it. -/
  | deliver (n : Nat)
  /-- Answer `Err(e)`. -/
  | err (e : ErrVal)
  /-- Stay silent: the engine waits (60_exceptions.md R236). -/
  | block
  deriving DecidableEq, Repr, Inhabited

/-- What the environment decides about one request on the sink port (20_memory.md R52, R55). -/
inductive SnkDraw where
  /-- Accept at most `n` of the offered bytes; a flush request is granted. -/
  | accept (n : Nat)
  /-- Answer `Err(e)`. -/
  | err (e : ErrVal)
  /-- Stay silent: the engine waits (60_exceptions.md R236). -/
  | block
  deriving DecidableEq, Repr, Inhabited

/-- `DEFAULT_CAPACITY` (00_scope.md R7): the staging capacity that `W_NEW 0` selects. -/
def Config.defaultCapacity : Nat := 16

/-- FREE VALUE (92_eei_decisions.md D23 leaves it OPEN): how the source treats its `k`-th request where the state
lists no answer for it. Nothing can be proved of it. -/
opaque Config.freeSrcDraw : Nat → SrcDraw

/-- FREE VALUE (92_eei_decisions.md D23 leaves it OPEN): how the sink treats its `k`-th request where the state lists
no answer for it. Nothing can be proved of it. -/
opaque Config.freeSnkDraw : Nat → SnkDraw

end Sys2Proof
end

