-- ==== Sys2Proof/Machine/State.lean ====
section
/-! DEFINITION. All the state of the block (10_state.md R20 to R42), of the streams at its ports (20_memory.md R50 to R55),
of its command, data and response channels (30_encoding.md R80, R87, R90), and the ways a step can stop. -/

namespace Sys2Proof.Machine

/-! ## How a step can stop -/

/-- Why the machine stops with a fault: for no reason. Every error of the block is a response (60_exceptions.md R230), and
an engine that cannot go on waits with its command outstanding while the rest of the machine goes on (R236, R240). -/
inductive Fault where
  deriving DecidableEq, Repr

/-- Why a step has no meaning. -/
inductive Refusal where
  /-- An instruction without a meaning yet, named by its mnemonic. No arm of `exec` raises it any more. Safe. -/
  | notModelled (mnemonic : String)
  deriving DecidableEq, Repr

/-! ## Responses (30_encoding.md R90 to R93) -/

/-- The cause of a failed transfer: the `DETAIL` codes 1 to 3 of `IO_ERROR` and `FLUSH_ON_UNWRAP` (R92). -/
inductive IoCause where
  /-- `PORT_ERROR`: the port answered `Err(e)`, and `e` is on the ERR channel. -/
  | portError (e : ErrVal)
  /-- `UNEXPECTED_EOF`: a reader fetch got `Data([])`. -/
  | unexpectedEof
  /-- `WRITE_ZERO`: a single-byte `SnkWrite` got `Ack(0)`. -/
  | writeZero
  deriving DecidableEq, Repr

/-- The cause of a programmer error (R92). -/
inductive ProgrammerCause where
  | countGt8
  | getMutUnaligned
  deriving DecidableEq, Repr

/-- The cause of a sequence error (R92). -/
inductive SequenceCause where
  | detached
  | alreadyAttached
  deriving DecidableEq, Repr

/-- `STATUS` with its `DETAIL` and, for a port error, the ERR channel (R91 to R93). -/
inductive Status where
  | ok
  | ioError (cause : IoCause)
  | programmerError (cause : ProgrammerCause)
  | flushOnUnwrap (cause : IoCause)
  | illegalCommand
  | sequenceError (cause : SequenceCause)
  deriving DecidableEq, Repr

/-- The GRANT channel (R93). -/
inductive Grant where
  | none
  | ref
  | mut
  | mutUnchecked
  | released
  deriving DecidableEq, Repr

/-- One response: the fields of the response word and its side channels (log entry 16: the port holds the last one). -/
structure Response where
  /-- `STATUS` and `DETAIL`, with ERR. -/
  status : Status
  /-- `RESULT8`. -/
  result8 : Byte := 0
  /-- `N`. -/
  n : Nat := 0
  /-- DATA_OUT: the bytes an `R_READ` delivers (R87). -/
  dataOut : List Byte := []
  /-- GRANT. -/
  grant : Grant := .none
  deriving DecidableEq, Repr

/-! ## Outstanding commands (20_memory.md R63, 60_exceptions.md R236) -/

/-- What an engine has been given to do: a command, or, for a writer, an illegal word framed like a `W_WRITE`, whose data
bytes it takes and discards (30_encoding.md R88). -/
inductive Job where
  | command (i : Instr)
  | illegal (len : Nat)
  deriving DecidableEq, Repr

/-- What an engine waits for: the answer to a request on its port (00_scope.md R12), or the `len` data bytes framed behind
a word (30_encoding.md R87). -/
inductive Request where
  | srcRead (len : Nat)
  | snkWrite (offered : List Byte)
  | snkFlush
  | dataIn (len : Nat)
  deriving DecidableEq, Repr

/-- Where an engine stands with its host. -/
inductive Reply where
  /-- There has been no command since power-on (70_reset_and_hazards.md R260). -/
  | noCommand
  /-- The last command is outstanding: the engine waits (60_exceptions.md R236). -/
  | waiting (job : Job) (on : Request)
  /-- The last command has been answered (log entry 16). -/
  | response (p : Response)
  deriving DecidableEq, Repr

/-! ## The source port and the sink port (20_memory.md R50, R52) -/

/-- The answer to a `SrcRead`. -/
inductive SrcAnswer where
  | data (xs : List Byte)
  | err (e : ErrVal)
  deriving DecidableEq, Repr

/-- One answered transaction `SrcRead(asked)` on the source port. -/
structure SrcTxn where
  asked : Nat
  answer : SrcAnswer
  deriving DecidableEq, Repr

/-- The source stream at the reader's port and the environment's answers (DESIGN CHOICE: log entries 2 and 6). -/
structure SrcPort where
  /-- The bytes of the source stream that have not been taken yet, in stream order. -/
  stream : List Byte
  /-- The environment's decisions on the next requests, in order. Past the list, `Config.freeSrcDraw` decides. -/
  draws : List SrcDraw
  /-- How many decisions have been drawn: the model's own counter, which tells the free values apart (log entry 2). -/
  drawn : Nat
  /-- The answered transactions, oldest first: the model's own record (DESIGN CHOICE, safe: log entry 15). -/
  log : List SrcTxn
  deriving DecidableEq, Repr

/-- The answer to a `SnkWrite`. -/
inductive SnkAnswer where
  | ack (m : Nat)
  | err (e : ErrVal)
  deriving DecidableEq, Repr

/-- The answer to a `SnkFlush`. -/
inductive FlushAnswer where
  | ok
  | err (e : ErrVal)
  deriving DecidableEq, Repr

/-- One answered transaction on the sink port. -/
inductive SnkTxn where
  | write (offered : List Byte) (answer : SnkAnswer)
  | flush (answer : FlushAnswer)
  deriving DecidableEq, Repr

/-- The sink stream at the writer's port and the environment's answers (DESIGN CHOICE: log entries 2 and 7). -/
structure SnkPort where
  /-- The bytes the sink has taken since it was wired, in stream order. -/
  stream : List Byte
  /-- The environment's decisions on the next requests, in order. Past the list, `Config.freeSnkDraw` decides. -/
  draws : List SnkDraw
  /-- How many decisions have been drawn: the model's own counter, which tells the free values apart (log entry 2). -/
  drawn : Nat
  /-- The answered transactions, oldest first: the model's own record (DESIGN CHOICE, safe: log entry 15). -/
  log : List SnkTxn
  deriving DecidableEq, Repr

/-! ## The two engines -/

/-- The bit_reader_engine (10_state.md R20) with its source port and its response port. -/
structure Reader where
  /-- `r_attached` (R23). -/
  attached : Bool
  /-- `r_off` (R21): how many bits of `buf` have been delivered. -/
  off : Offset
  /-- `r_buf` (R22): the byte fetched last; dead when `off = 0` (R25). -/
  buf : Byte
  /-- The source port. -/
  port : SrcPort
  /-- `R_INTO_INNER` has handed the source to the host for good, and no `R_NEW` has taken it back (20_memory.md R71). -/
  released : Bool
  /-- The response port and the outstanding command. -/
  rsp : Reply
  deriving DecidableEq, Repr

/-- The bit_writer_engine (10_state.md R30) with its sink port, its data-in channel and its response port. -/
structure Writer where
  /-- `w_attached` (R33). -/
  attached : Bool
  /-- `w_off` (R31): how many bits of `buf` are pending. -/
  off : Offset
  /-- `w_buf` (R32): the pending bits at policy indices below `off`. -/
  buf : Byte
  /-- `w_cap` (R34): the staging capacity. -/
  cap : Half
  /-- The sink port. -/
  port : SnkPort
  /-- The data-in channel (30_encoding.md R87): bytes the host has sent and no command has taken. -/
  dataIn : List Byte
  /-- `W_INTO_INNER` has handed the sink to the host for good, and no `W_NEW` has taken it back (20_memory.md R71). -/
  released : Bool
  /-- The response port and the outstanding command. -/
  rsp : Reply
  deriving DecidableEq, Repr

/-! ## The world outside the block (20_memory.md R63, R71) -/

/-- One move of the world outside the block (DESIGN CHOICE, safe: log entry 8). -/
inductive HostMove where
  /-- A command word on the reader's command port. -/
  | readerCommand (w : Word)
  /-- A command word on the writer's command port, with the bytes sent at once behind it on the data-in channel. -/
  | writerCommand (w : Word) (data : List Byte)
  /-- More of the bytes framed behind the writer's outstanding word (30_encoding.md R87). -/
  | writerData (xs : List Byte)
  /-- The source answers the reader's outstanding request at last (60_exceptions.md R236). -/
  | sourceAnswers (d : SrcDraw)
  /-- The sink answers the writer's outstanding request at last (60_exceptions.md R236). -/
  | sinkAnswers (d : SnkDraw)
  /-- Look at the source stream (R70). -/
  | inspectSource
  /-- Look at the sink stream (R70). -/
  | inspectSink
  /-- Take up to `n` bytes from the front of the source stream, past the engine (R70). -/
  | consumeSource (n : Nat)
  /-- Append bytes to the sink stream, past the engine (R70). -/
  | appendSink (xs : List Byte)
  /-- Flush the sink, past the engine (R71). -/
  | flushSink
  /-- Wire the port of a detached reader to a source with these bytes and answers (70_reset_and_hazards.md R263). -/
  | wireSource (stream : List Byte) (draws : List SrcDraw)
  /-- Wire the port of a detached writer to a sink with these bytes and answers (70_reset_and_hazards.md R263). -/
  | wireSink (stream : List Byte) (draws : List SnkDraw)
  /-- Power-on reset (70_reset_and_hazards.md R260, R262). -/
  | powerOnReset
  deriving DecidableEq, Repr

/-! ## The machine -/

/-- One reader and one writer, which share nothing (00_scope.md R2), and what the host will do next. -/
structure State where
  /-- The instance's static parameters (10_state.md R41): no step changes them. -/
  params : Params
  reader : Reader
  writer : Writer
  /-- The coming moves of the world outside, in their order: the program (10_state.md R38). -/
  host : List HostMove
  /-- What the host saw when it last inspected a stream: the model's own record (DESIGN CHOICE, safe: log entry 15). -/
  view : Option (List Byte)
  deriving DecidableEq, Repr

/-- The state of an instance with parameters `p` after power-on (10_state.md R41, 70_reset_and_hazards.md R260), its
ports wired to an empty source and an empty sink, and the host idle. -/
def State.powerOn (p : Params) : State where
  params := p
  reader :=
    { attached := false, off := 0, buf := 0, port := { stream := [], draws := [], drawn := 0, log := [] },
      released := false, rsp := .noCommand }
  writer :=
    { attached := false, off := 0, buf := 0, cap := BitVec.ofNat 16 Config.defaultCapacity,
      port := { stream := [], draws := [], drawn := 0, log := [] }, dataIn := [],
      released := false, rsp := .noCommand }
  host := []
  view := none

/-- The machine right after reset. DESIGN CHOICE (log entry 1): the spec leaves both endiannesses open, and this one
state takes an MSB-first instance with the default staging mode; `State.powerOn` is the state of every instance. -/
def State.reset : State :=
  State.powerOn { readerEndian := .msbFirst, writerEndian := .msbFirst, stagingMode := .bounded }

end Sys2Proof.Machine
end

