-- ==== Sys2Proof/Machine/Flags.lean ====
section
/-! DEFINITION. The block has no flag register (10_state.md R39). Its two flags are predicates of the offsets. -/

namespace Sys2Proof.Machine

/-- `r_aligned` (10_state.md R26). -/
def Reader.aligned (r : Reader) : Bool := r.off == 0

/-- `w_aligned` (10_state.md R36). -/
def Writer.aligned (w : Writer) : Bool := w.off == 0

/-- How `IS_ALIGNED` reports a flag in `RESULT8` (30_encoding.md R90). -/
def flagResult (aligned : Bool) : Byte := if aligned then 1 else 0

end Sys2Proof.Machine
end

