-- ==== Sys2Proof/Machine/Operands.lean ====
section
/-! DEFINITION. What the commands make of their operands (30_encoding.md R94): the accepted counts, the bit as a number,
the staging capacity, and the number of bytes staged. -/

namespace Sys2Proof.Machine

/-- A count that `READ_BITS` and `WRITE_BITS` refuse (60_exceptions.md R223). -/
def countTooLarge (count : Nat) : Bool := decide (8 < count)

/-- A bit as a result or as the byte to deposit: 1 for `true` and 0 for `false` (30_encoding.md R84). -/
def bitByte (b : Bool) : Byte := if b then 1 else 0

/-- The capacity that `W_NEW LEN` selects (42_writer.md R173). -/
def capacityOf (len : Nat) : Half :=
  if len = 0 then BitVec.ofNat 16 Config.defaultCapacity else BitVec.ofNat 16 len

/-- `k` of 42_writer.md R182: how many of `len` data bytes an unaligned `W_WRITE` stages. -/
def stagedCount : StagingMode → Half → Nat → Nat
  | .bounded, cap, len => min len cap.toNat
  | .perCall, _, len => len

/-- `(off + c) mod 8` (40_policy.md R123). -/
def advance (off : Offset) (c : Nat) : Offset := BitVec.ofNat 3 (off.toNat + c)

end Sys2Proof.Machine
end

