-- ==== Sys2Proof/Machine/Response.lean ====
section
/-! DEFINITION. How a response is written as a word (30_encoding.md R90 to R93), and the responses the commands give. -/

namespace Sys2Proof.Machine

/-- `STATUS` (R91). -/
def Status.code : Status → BitVec 4
  | .ok => 0
  | .ioError _ => 1
  | .programmerError _ => 2
  | .flushOnUnwrap _ => 3
  | .illegalCommand => 4
  | .sequenceError _ => 5

/-- The `DETAIL` of a failed transfer (R92). -/
def IoCause.code : IoCause → BitVec 4
  | .portError _ => 1
  | .unexpectedEof => 2
  | .writeZero => 3

/-- `DETAIL` (R92). -/
def Status.detail : Status → BitVec 4
  | .ok => 0
  | .ioError c => c.code
  | .programmerError .countGt8 => 1
  | .programmerError .getMutUnaligned => 2
  | .flushOnUnwrap c => c.code
  | .illegalCommand => 0
  | .sequenceError .detached => 1
  | .sequenceError .alreadyAttached => 2

/-- The ERR channel (R93): valid only for a port error. -/
def Status.err : Status → Option ErrVal
  | .ioError (.portError e) => some e
  | .flushOnUnwrap (.portError e) => some e
  | _ => none

/-- The response word (R90): `N`, `RESULT8`, `DETAIL`, `STATUS` from bit 31 down. -/
def Response.word (p : Response) : Word :=
  BitVec.ofNat 16 p.n ++ p.result8 ++ p.status.detail ++ p.status.code

/-- `respond(OK, 0, 0, 0)`. -/
def Response.okay : Response := { status := .ok }

/-- `respond(OK, 0, v, 0)`. -/
def Response.value (v : Byte) : Response := { status := .ok, result8 := v }

/-- `respond(OK, 0, 0, n)` with the `n` bytes on DATA_OUT (R87). -/
def Response.bytes (out : List Byte) : Response := { status := .ok, n := out.length, dataOut := out }

/-- `respond(OK, 0, 0, n)` with nothing on DATA_OUT. -/
def Response.count (n : Nat) : Response := { status := .ok, n := n }

/-- `respond(OK, 0, 0, 0)` with a grant. -/
def Response.granting (g : Grant) : Response := { status := .ok, grant := g }

/-- `raise` (00_scope.md R12): a response with any other status has `RESULT8 = 0` and `N = 0` (R90). -/
def Response.failure (st : Status) : Response := { status := st }

/-! ## Where an engine stands with its host -/

/-- The engine's last command is outstanding, so it accepts no other (20_memory.md R63). -/
def Reply.isWaiting : Reply → Bool
  | .waiting _ _ => true
  | _ => false

/-- The response to the last command, if it has been given. -/
def Reply.given : Reply → Option Response
  | .response p => some p
  | _ => none

/-- The window the last response has opened, which the next command closes (20_memory.md R70; DEDUCED: log entry 13). -/
def Reply.grant : Reply → Grant
  | .response p => p.grant
  | _ => .none

end Sys2Proof.Machine
end

