-- ==== Sys2Proof/Machine/Ops.lean ====
section
/-! DEFINITION. The named operations that every command is made of: the port transactions (20_memory.md R50 to R55), the
register updates, `respond` and `raise` (00_scope.md R12), the attachment check (60_exceptions.md R228), the refill and
flush of the partial byte (41_reader.md R131, 42_writer.md R171, R172), and power-on reset.

The block has no trap entry and no return from one (60_exceptions.md R230): `Reader.raise` and `Writer.raise` are the
one way a command reports an error. -/

namespace Sys2Proof.Machine

/-- The outcome of a command or of a step. -/
abbrev Result (σ : Type) := Host.Outcome σ Fault Refusal

/-! ## The source port -/

/-- The environment's decision on the next source request; past the list a FREE VALUE (DESIGN CHOICE, safe: log entry
2). -/
def SrcPort.draw (p : SrcPort) : SrcDraw := p.draws.headD (Config.freeSrcDraw p.drawn)

/-- The answer to `SrcRead(len)` (R50), `none` while the port is silent. A request of length 0 is answered with
`Data([])` and by no error (92_eei_decisions.md D23; DEDUCED: log entries 5 and 20). -/
def SrcPort.answer (p : SrcPort) (len : Nat) : Option SrcAnswer :=
  match p.draw with
  | .deliver n => some (.data (p.stream.take (min n len)))
  | .err e => some (if len = 0 then .data [] else .err e)
  | .block => none

/-- The source port after the answer `a` to `SrcRead(len)`: data leaves the stream, an error removes nothing (R50). -/
def SrcPort.after (p : SrcPort) (len : Nat) (a : SrcAnswer) : SrcPort where
  stream :=
    match a with
    | .data xs => p.stream.drop xs.length
    | .err _ => p.stream
  draws := p.draws.tail
  drawn := p.drawn + 1
  log := p.log ++ [{ asked := len, answer := a }]

/-- The source port while a request is outstanding on it: nothing has moved. -/
def SrcPort.silent (p : SrcPort) : SrcPort := { p with draws := p.draws.tail, drawn := p.drawn + 1 }

/-- The source port with the environment's next decision put before the listed ones. -/
def SrcPort.decide (p : SrcPort) (d : SrcDraw) : SrcPort := { p with draws := d :: p.draws }

/-! ## The sink port -/

/-- The environment's decision on the next sink request; past the list a FREE VALUE (DESIGN CHOICE, safe: log entry
2). -/
def SnkPort.draw (p : SnkPort) : SnkDraw := p.draws.headD (Config.freeSnkDraw p.drawn)

/-- The answer to `SnkWrite(xs)` (R52), `none` while the port is silent. An empty offer is answered with `Ack(0)` and
by no error (92_eei_decisions.md D23; DEDUCED: log entries 5 and 20). -/
def SnkPort.answer (p : SnkPort) (xs : List Byte) : Option SnkAnswer :=
  match p.draw with
  | .accept n => some (.ack (min n xs.length))
  | .err e => some (if xs = [] then .ack 0 else .err e)
  | .block => none

/-- The sink port after the answer `a` to `SnkWrite(xs)`: `Ack(m)` appends the first `m` bytes, an error none (R52). -/
def SnkPort.after (p : SnkPort) (xs : List Byte) (a : SnkAnswer) : SnkPort where
  stream :=
    match a with
    | .ack m => p.stream ++ xs.take m
    | .err _ => p.stream
  draws := p.draws.tail
  drawn := p.drawn + 1
  log := p.log ++ [.write xs a]

/-- The answer to `SnkFlush()`, `none` while the port is silent. -/
def SnkPort.flushAnswer (p : SnkPort) : Option FlushAnswer :=
  match p.draw with
  | .accept _ => some .ok
  | .err e => some (.err e)
  | .block => none

/-- The sink port after the answer `a` to `SnkFlush()`. -/
def SnkPort.afterFlush (p : SnkPort) (a : FlushAnswer) : SnkPort where
  stream := p.stream
  draws := p.draws.tail
  drawn := p.drawn + 1
  log := p.log ++ [.flush a]

/-- The sink port while a request is outstanding on it: nothing has moved. -/
def SnkPort.silent (p : SnkPort) : SnkPort := { p with draws := p.draws.tail, drawn := p.drawn + 1 }

/-- The sink port with the environment's next decision put before the listed ones. -/
def SnkPort.decide (p : SnkPort) (d : SnkDraw) : SnkPort := { p with draws := d :: p.draws }

/-! ## Register updates -/

/-- `r_off <- o; r_buf <- b`. -/
def Reader.setCursor (r : Reader) (o : Offset) (b : Byte) : Reader := { r with off := o, buf := b }

/-- `r_attached <- a`. -/
def Reader.setAttached (r : Reader) (a : Bool) : Reader := { r with attached := a }

/-- The reader with another state of its source port. -/
def Reader.setPort (r : Reader) (p : SrcPort) : Reader := { r with port := p }

/-- `respond` on the reader's response port: the command is no longer outstanding. -/
def Reader.respond (r : Reader) (p : Response) : Reader := { r with rsp := .response p }

/-- The reader with its job outstanding. -/
def Reader.await (r : Reader) (j : Job) (q : Request) : Reader := { r with rsp := .waiting j q }

/-- The source is the host's for good, or no longer (20_memory.md R71). -/
def Reader.setReleased (r : Reader) (b : Bool) : Reader := { r with released := b }

/-- `w_off <- o; w_buf <- b`. -/
def Writer.setCursor (w : Writer) (o : Offset) (b : Byte) : Writer := { w with off := o, buf := b }

/-- `w_attached <- a`. -/
def Writer.setAttached (w : Writer) (a : Bool) : Writer := { w with attached := a }

/-- `w_cap <- c`. -/
def Writer.setCap (w : Writer) (c : Half) : Writer := { w with cap := c }

/-- The writer with another state of its sink port. -/
def Writer.setPort (w : Writer) (p : SnkPort) : Writer := { w with port := p }

/-- The writer with these bytes on its data-in channel. -/
def Writer.setDataIn (w : Writer) (xs : List Byte) : Writer := { w with dataIn := xs }

/-- `respond` on the writer's response port: the command is no longer outstanding. -/
def Writer.respond (w : Writer) (p : Response) : Writer := { w with rsp := .response p }

/-- The writer with its job outstanding. -/
def Writer.await (w : Writer) (j : Job) (q : Request) : Writer := { w with rsp := .waiting j q }

/-- The sink is the host's for good, or no longer (20_memory.md R71). -/
def Writer.setReleased (w : Writer) (b : Bool) : Writer := { w with released := b }

/-- The state with another reader. -/
def State.setReader (s : State) (r : Reader) : State := { s with reader := r }

/-- The state with another writer. -/
def State.setWriter (s : State) (w : Writer) : State := { s with writer := w }

/-- The state with other coming moves of the host. -/
def State.setHost (s : State) (ms : List HostMove) : State := { s with host := ms }

/-- The state in which the host has seen a stream. -/
def State.setView (s : State) (xs : List Byte) : State := { s with view := some xs }

/-! ## Errors and the attachment check -/

/-- `raise`: the command ends with status `st` and the registers as they are (60_exceptions.md R229). A programmer error
too is answered so (R224; DESIGN CHOICE, safe: log entry 11). -/
def Reader.raise (r : Reader) (st : Status) : Reader := r.respond (.failure st)

/-- `raise` on the writer. -/
def Writer.raise (w : Writer) (st : Status) : Writer := w.respond (.failure st)

/-- Step 2 of 60_exceptions.md R228 for every reader command but `R_NEW` and `R_DROP`. -/
def Reader.whenAttached (r : Reader) (k : Reader) : Reader := if r.attached then k else r.raise (.sequenceError .detached)

/-- Step 2 of 60_exceptions.md R228 for every writer command but `W_NEW` and `W_DROP`. -/
def Writer.whenAttached (w : Writer) (k : Writer) : Writer := if w.attached then k else w.raise (.sequenceError .detached)

/-! ## Transfers

Each takes the command `i` that makes it. While the port is silent, the command is outstanding with its request, and the
registers are as the command has left them (60_exceptions.md R236, R243; DEDUCED: log entries 3 and 25). Once the port
answers, the command runs on from there: it is carried out again, and this time the request is answered. -/

/-- One `SrcRead(len)`; `k` goes on with the answer. -/
def Reader.srcRead (r : Reader) (i : Instr) (len : Nat) (k : SrcAnswer → Reader → Reader) : Reader :=
  match r.port.answer len with
  | none => (r.setPort r.port.silent).await (.command i) (.srcRead len)
  | some a => k a (r.setPort (r.port.after len a))

/-- `FetchByte()` (41_reader.md R131); `k` goes on with the byte. -/
def Reader.fetchByte (r : Reader) (i : Instr) (k : Byte → Reader → Reader) : Reader :=
  r.srcRead i 1 fun a r' =>
    match a with
    | .data (x :: _) => k x r'
    | .data [] => r'.raise (.ioError .unexpectedEof)
    | .err e => r'.raise (.ioError (.portError e))

/-- One `SnkWrite(xs)`; `k` goes on with the answer. -/
def Writer.snkWrite (w : Writer) (i : Instr) (xs : List Byte) (k : SnkAnswer → Writer → Writer) : Writer :=
  match w.port.answer xs with
  | none => (w.setPort w.port.silent).await (.command i) (.snkWrite xs)
  | some a => k a (w.setPort (w.port.after xs a))

/-- One `SnkFlush()`; `k` goes on with the answer. -/
def Writer.snkFlush (w : Writer) (i : Instr) (k : FlushAnswer → Writer → Writer) : Writer :=
  match w.port.flushAnswer with
  | none => (w.setPort w.port.silent).await (.command i) .snkFlush
  | some a => k a (w.setPort (w.port.afterFlush a))

/-- `SinkByte(b)` (42_writer.md R171): `failed` turns the cause of a failure into the status the command raises. -/
def Writer.sinkByte (w : Writer) (i : Instr) (b : Byte) (failed : IoCause → Status) (k : Writer → Writer) : Writer :=
  w.snkWrite i [b] fun a w' =>
    match a with
    | .ack 0 => w'.raise (failed .writeZero)
    | .ack (_ + 1) => k w'
    | .err e => w'.raise (failed (.portError e))

/-- `FlushPartial()` (42_writer.md R172). -/
def Writer.flushPartial (w : Writer) (i : Instr) (failed : IoCause → Status) (k : Writer → Writer) : Writer :=
  if w.aligned then k w else w.sinkByte i w.buf failed fun w' => k (w'.setCursor 0 0)

/-- The frame of `len` bytes leaves the data-in channel once its word has been answered (30_encoding.md R87; DEDUCED: log
entry 22). -/
def Writer.dropFrame (w : Writer) (len : Nat) : Writer :=
  if w.rsp.isWaiting then w else w.setDataIn (w.dataIn.drop len)

/-- Run job `j` on the frame of `len` bytes on the data-in channel (30_encoding.md R87); until they have all come, the
writer waits for them (DEDUCED: log entry 9). -/
def Writer.takeData (w : Writer) (j : Job) (len : Nat) (k : List Byte → Writer) : Writer :=
  if len ≤ w.dataIn.length then (k (w.dataIn.take len)).dropFrame len else w.await j (.dataIn len)

/-! ## Running an engine inside the machine -/

/-- Run a reader operation: the rest of the machine is not in its reach (60_exceptions.md R240). -/
def State.onReader (s : State) (f : Params → Reader → Reader) : Result State := .next (s.setReader (f s.params s.reader))

/-- Run a writer operation: the rest of the machine is not in its reach (60_exceptions.md R240). -/
def State.onWriter (s : State) (f : Params → Writer → Writer) : Result State := .next (s.setWriter (f s.params s.writer))

/-! ## Power-on reset (70_reset_and_hazards.md R260, R262; DESIGN CHOICE on the channels and on a command that waits: log
entry 14) -/

/-- The reader at power-on: no command is outstanding, no transfer is made, and the stream stays as it is. -/
def Reader.powerOn (r : Reader) : Reader := { r with attached := false, off := 0, buf := 0, rsp := .noCommand }

/-- The writer at power-on: no command is outstanding, no transfer is made, and pending bits are lost, as is what had come
of an outstanding word's frame. -/
def Writer.powerOn (w : Writer) : Writer :=
  { w with
    attached := false, off := 0, buf := 0, cap := BitVec.ofNat 16 Config.defaultCapacity, dataIn := [],
    rsp := .noCommand }

end Sys2Proof.Machine
end

