-- ==== Sys2Proof/Machine/Policy.lean ====
section
/-! DEFINITION. The bit-endianness policy datapath (40_policy.md R110 to R122): pure functions on bytes, with no state. -/

namespace Sys2Proof.Machine

/-- `pos(B, i)` (R110): the value bit that holds policy index `i`. -/
def pos : Endian → Nat → Nat
  | .msbFirst, i => 7 - i
  | .lsbFirst, i => i

/-- `bitAt(B, v, i)` (R110). -/
def bitAt (B : Endian) (v : Byte) (i : Nat) : Bool := v.getLsbD (pos B i)

/-- `shl8` (R111): bits shifted past bit 7 are lost. -/
def shl8 (v : Byte) (k : Nat) : Byte := v <<< k

/-- `shr8` (R111): bits shifted below bit 0 are lost. -/
def shr8 (v : Byte) (k : Nat) : Byte := v >>> k

/-- `mask(c) = 2^c - 1` (R112). -/
def mask (c : Nat) : Byte := BitVec.ofNat 8 (2 ^ c - 1)

/-- `shift_toward_msb` (R113): toward policy index 0, the front of the stream. -/
def shiftTowardMsb : Endian → Byte → Nat → Byte
  | .msbFirst, v, k => shl8 v k
  | .lsbFirst, v, k => shr8 v k

/-- `shift_toward_lsb` (R114): toward policy index 7. -/
def shiftTowardLsb : Endian → Byte → Nat → Byte
  | .msbFirst, v, k => shr8 v k
  | .lsbFirst, v, k => shl8 v k

/-- `align_right` (R115). -/
def alignRight : Endian → Byte → Nat → Byte
  | .msbFirst, v, _ => v
  | .lsbFirst, v, c => shr8 v (8 - c)

/-- `extract` (R119): the field made of the bits at policy indices 0 to `c - 1`. -/
def extract (B : Endian) (w : Byte) (c : Nat) : Byte := alignRight B (shiftTowardLsb B w (8 - c)) c

/-- `place` (R120): the low `c` bits of `f` at policy indices 0 to `c - 1`. -/
def place : Endian → Byte → Nat → Byte
  | .msbFirst, f, c => shl8 (f &&& mask c) (8 - c)
  | .lsbFirst, f, c => f &&& mask c

/-- `rcombine` (R121): the bits of `prev` from index `o` on, then the first `o` bits of `curr`. -/
def rcombine (B : Endian) (prev curr : Byte) (o : Nat) : Byte :=
  shiftTowardMsb B prev o ||| shiftTowardLsb B curr (8 - o)

/-- `wcombine` (R122): the pending bits of `p`, then the first `8 - o` bits of `d`. -/
def wcombine (B : Endian) (p d : Byte) (o : Nat) : Byte := p ||| shiftTowardLsb B d o

/-- `wtail` (R122): the last `o` bits of `d`, at policy indices 0 to `o - 1`. -/
def wtail (B : Endian) (d : Byte) (o : Nat) : Byte := shiftTowardMsb B d (8 - o)

/-- The walk of 41_reader.md R141: each delivered byte joins the rest of the byte before it to the head of its own. -/
def deliverShifted (B : Endian) (o : Nat) : Byte → List Byte → List Byte
  | _, [] => []
  | prev, x :: xs => rcombine B prev x o :: deliverShifted B o x xs

/-- The staging pass of 42_writer.md R182: each staged byte carries the pending bits and the head of its data byte. -/
def stageShifted (B : Endian) (o : Nat) : Byte → List Byte → List Byte
  | _, [] => []
  | prev, d :: ds => wcombine B prev d o :: stageShifted B o (wtail B d o) ds

end Sys2Proof.Machine
end

