-- ==== Sys2Proof/Machine/Reader.lean ====
section
/-! DEFINITION. The meanings of the bit_reader_engine commands (41_reader.md R130 to R142), each behind the checks of
60_exceptions.md R228 in their order. -/

namespace Sys2Proof.Machine

/-- `R_NEW` (R132): attach the source at the port and initialise. -/
def execRNew (s : State) : Result State :=
  s.onReader fun _ r =>
    if r.attached then r.raise (.sequenceError .alreadyAttached)
    else (((r.setAttached true).setCursor 0 0).setReleased false).respond .okay

/-- The end of a bit-granular read: the cursor moves and the value is the result. -/
def Reader.finishRead (r : Reader) (off : Offset) (buf : Byte) (value : Byte) : Reader :=
  (r.setCursor off buf).respond (.value value)

/-- `R_READ_BIT` (R133). -/
def execRReadBit (s : State) : Result State :=
  s.onReader fun p r => r.whenAttached <|
    if r.aligned then
      r.fetchByte .rReadBit fun x r' =>
        r'.finishRead (advance r.off 1) x (bitByte (bitAt p.readerEndian x r.off.toNat))
    else
      r.finishRead (advance r.off 1) r.buf (bitByte (bitAt p.readerEndian r.buf r.off.toNat))

/-- The byte whose first bits are the next bits of the stream, once `x` has been fetched (R134). -/
def Reader.window (r : Reader) (B : Endian) (x : Byte) : Byte :=
  if r.aligned then x else rcombine B r.buf x r.off.toNat

/-- The body of `R_READ_BITS` (R134), for a count that the checks have let through. -/
def Reader.readField (r : Reader) (B : Endian) (c : Nat) : Reader :=
  if c = 0 then r.respond (.value 0)
  else if r.aligned = false ∧ c ≤ 8 - r.off.toNat then
    r.finishRead (advance r.off c) r.buf (extract B (shiftTowardMsb B r.buf r.off.toNat) c)
  else
    r.fetchByte (.rReadBits c) fun x r' => r'.finishRead (advance r.off c) x (extract B (r.window B x) c)

/-- `R_READ_BITS c` (R134). -/
def execRReadBits (count : Nat) (s : State) : Result State :=
  s.onReader fun p r => r.whenAttached <|
    if countTooLarge count then r.raise (.programmerError .countGt8) else r.readField p.readerEndian count

/-- `R_IS_ALIGNED` (R135). -/
def execRIsAligned (s : State) : Result State :=
  s.onReader fun _ r => r.whenAttached <| r.respond (.value (flagResult r.aligned))

/-- `R_ALIGN` (R136): undelivered bits are lost. -/
def execRAlign (s : State) : Result State :=
  s.onReader fun _ r => r.whenAttached <| (r.setCursor 0 0).respond .okay

/-- `R_GET_REF` (R137). -/
def execRGetRef (s : State) : Result State :=
  s.onReader fun _ r => r.whenAttached <| r.respond (.granting .ref)

/-- `R_GET_MUT` (R138): refused unless aligned. -/
def execRGetMut (s : State) : Result State :=
  s.onReader fun _ r => r.whenAttached <|
    if r.aligned then r.respond (.granting .mut) else r.raise (.programmerError .getMutUnaligned)

/-- `R_GET_MUT_UNCHECKED` (R139). -/
def execRGetMutUnchecked (s : State) : Result State :=
  s.onReader fun _ r => r.whenAttached <| r.respond (.granting .mutUnchecked)

/-- `R_INTO_INNER` (R140): hand the source back, for good (20_memory.md R71). -/
def execRIntoInner (s : State) : Result State :=
  s.onReader fun _ r => r.whenAttached <|
    (((r.setAttached false).setCursor 0 0).setReleased true).respond (.granting .released)

/-- `R_READ L` (R141): one request, whose bytes pass through when aligned and are shifted otherwise. -/
def execRRead (len : Nat) (s : State) : Result State :=
  s.onReader fun p r => r.whenAttached <|
    r.srcRead (.rRead len) len fun a r' =>
      match a with
      | .err e => r'.raise (.ioError (.portError e))
      | .data xs =>
        if r.aligned then r'.respond (.bytes xs)
        else
          (r'.setCursor r.off (xs.getLastD r.buf)).respond
            (.bytes (deliverShifted p.readerEndian r.off.toNat r.buf xs))

/-- `R_DROP` (R142): no transfer, and a no-op on a detached reader. -/
def execRDrop (s : State) : Result State :=
  s.onReader fun _ r =>
    if r.attached then ((r.setAttached false).setCursor 0 0).respond .okay else r.respond .okay

end Sys2Proof.Machine
end

