-- ==== Sys2Proof/Machine/Writer.lean ====
section
/-! DEFINITION. The meanings of the bit_writer_engine commands (42_writer.md R170 to R184), each behind the checks of
60_exceptions.md R228 in their order. -/

namespace Sys2Proof.Machine

/-- `W_NEW LEN` (R173): attach the sink at the port, initialise, and select the staging capacity. -/
def execWNew (len : Nat) (s : State) : Result State :=
  s.onWriter fun _ w =>
    if w.attached then w.raise (.sequenceError .alreadyAttached)
    else ((((w.setAttached true).setCursor 0 0).setCap (capacityOf len)).setReleased false).respond .okay

/-- `W_WRITE_BIT b` (R174). -/
def execWWriteBit (bit : Bool) (s : State) : Result State :=
  s.onWriter fun p w => w.whenAttached <|
    let o := w.off.toNat
    let nb := w.buf ||| shl8 (bitByte bit) (pos p.writerEndian o)
    if o = 7 then
      w.sinkByte (.wWriteBit bit) nb .ioError fun w' => (w'.setCursor (advance w.off 1) 0).respond .okay
    else
      (w.setCursor (advance w.off 1) nb).respond .okay

/-- The body of `W_WRITE_BITS` (R175), for a count that the checks have let through. -/
def Writer.writeField (w : Writer) (B : Endian) (bits : Byte) (c : Nat) : Writer :=
  let o := w.off.toNat
  let a := place B bits c
  let cur := w.buf ||| shiftTowardLsb B a o
  if 8 ≤ o + c then
    w.sinkByte (.wWriteBits bits c) cur .ioError fun w' =>
      (w'.setCursor (advance w.off c) (shiftTowardMsb B a (8 - o))).respond .okay
  else
    (w.setCursor (advance w.off c) cur).respond .okay

/-- `W_WRITE_BITS bits, c` (R175). -/
def execWWriteBits (bits : Byte) (count : Nat) (s : State) : Result State :=
  s.onWriter fun p w => w.whenAttached <|
    if countTooLarge count then w.raise (.programmerError .countGt8) else w.writeField p.writerEndian bits count

/-- `W_IS_ALIGNED` (R176). -/
def execWIsAligned (s : State) : Result State :=
  s.onWriter fun _ w => w.whenAttached <| w.respond (.value (flagResult w.aligned))

/-- `W_ALIGN` (R177): pad and write the partial byte. -/
def execWAlign (s : State) : Result State :=
  s.onWriter fun _ w => w.whenAttached <| w.flushPartial .wAlign .ioError fun w' => w'.respond .okay

/-- `W_GET_REF` (R178). -/
def execWGetRef (s : State) : Result State :=
  s.onWriter fun _ w => w.whenAttached <| w.respond (.granting .ref)

/-- `W_GET_MUT` (R179): refused unless aligned. -/
def execWGetMut (s : State) : Result State :=
  s.onWriter fun _ w => w.whenAttached <|
    if w.aligned then w.respond (.granting .mut) else w.raise (.programmerError .getMutUnaligned)

/-- `W_GET_MUT_UNCHECKED` (R180). -/
def execWGetMutUnchecked (s : State) : Result State :=
  s.onWriter fun _ w => w.whenAttached <| w.respond (.granting .mutUnchecked)

/-- `W_INTO_INNER` (R181): flush and hand the sink back, for good (20_memory.md R71); a failed flush keeps the writer intact. -/
def execWIntoInner (s : State) : Result State :=
  s.onWriter fun _ w => w.whenAttached <|
    w.flushPartial .wIntoInner .flushOnUnwrap fun w' =>
      ((w'.setAttached false).setReleased true).respond (.granting .released)

/-- The body of `W_WRITE L` (R182) on its data bytes `d`: one offer, passed through when aligned and shifted otherwise. -/
def Writer.writeBytes (w : Writer) (mode : StagingMode) (B : Endian) (len : Nat) (d : List Byte) : Writer :=
  if w.aligned then
    w.snkWrite (.wWrite len) d fun a w' =>
      match a with
      | .err e => w'.raise (.ioError (.portError e))
      | .ack m => w'.respond (.count m)
  else
    let o := w.off.toNat
    let k := stagedCount mode w.cap d.length
    w.snkWrite (.wWrite len) (stageShifted B o w.buf (d.take k)) fun a w' =>
      match a with
      | .err e => w'.raise (.ioError (.portError e))
      | .ack 0 => w'.respond (.count 0)
      | .ack (j + 1) => (w'.setCursor w.off (wtail B (d.getD j 0) o)).respond (.count (j + 1))

/-- `W_WRITE L` (R182). The `L` data bytes are framed behind the word whatever the checks answer
(30_encoding.md R88), so the writer has them come before it answers (DEDUCED, unsafe for the channel: log entry 10). -/
def execWWrite (len : Nat) (s : State) : Result State :=
  s.onWriter fun p w =>
    w.takeData (.command (.wWrite len)) len fun d =>
      w.whenAttached <| w.writeBytes p.stagingMode p.writerEndian len d

/-- `W_FLUSH` (R183): the partial byte, then the sink's flush. -/
def execWFlush (s : State) : Result State :=
  s.onWriter fun _ w => w.whenAttached <|
    w.flushPartial .wFlush .ioError fun w' =>
      w'.snkFlush .wFlush fun a w'' =>
        match a with
        | .err e => w''.raise (.ioError (.portError e))
        | .ok => w''.respond .okay

/-- `W_DROP` (R184): a best-effort write of the partial byte, whose answer is ignored, and a no-op on a detached
writer. -/
def execWDrop (s : State) : Result State :=
  s.onWriter fun _ w =>
    if w.attached then
      if w.aligned then ((w.setAttached false).setCursor 0 0).respond .okay
      else w.snkWrite .wDrop [w.buf] fun _ w' => ((w'.setAttached false).setCursor 0 0).respond .okay
    else w.respond .okay

end Sys2Proof.Machine
end

