-- ==== Sys2Proof/Machine/Dispatch.lean ====
section
/-! DEFINITION. The meaning of every command, one arm per constructor. -/

namespace Sys2Proof.Machine

def exec (i : Instr) (s : State) : Host.Outcome State Fault Refusal :=
  match i with
  -- bit_reader_engine (41_reader.md)
  | .rNew => Sys2Proof.Machine.execRNew s
  | .rReadBit => Sys2Proof.Machine.execRReadBit s
  | .rReadBits count => Sys2Proof.Machine.execRReadBits count s
  | .rIsAligned => Sys2Proof.Machine.execRIsAligned s
  | .rAlign => Sys2Proof.Machine.execRAlign s
  | .rGetRef => Sys2Proof.Machine.execRGetRef s
  | .rGetMut => Sys2Proof.Machine.execRGetMut s
  | .rGetMutUnchecked => Sys2Proof.Machine.execRGetMutUnchecked s
  | .rIntoInner => Sys2Proof.Machine.execRIntoInner s
  | .rRead len => Sys2Proof.Machine.execRRead len s
  | .rDrop => Sys2Proof.Machine.execRDrop s
  -- bit_writer_engine (42_writer.md)
  | .wNew len => Sys2Proof.Machine.execWNew len s
  | .wWriteBit bit => Sys2Proof.Machine.execWWriteBit bit s
  | .wWriteBits bits count => Sys2Proof.Machine.execWWriteBits bits count s
  | .wIsAligned => Sys2Proof.Machine.execWIsAligned s
  | .wAlign => Sys2Proof.Machine.execWAlign s
  | .wGetRef => Sys2Proof.Machine.execWGetRef s
  | .wGetMut => Sys2Proof.Machine.execWGetMut s
  | .wGetMutUnchecked => Sys2Proof.Machine.execWGetMutUnchecked s
  | .wIntoInner => Sys2Proof.Machine.execWIntoInner s
  | .wWrite len => Sys2Proof.Machine.execWWrite len s
  | .wFlush => Sys2Proof.Machine.execWFlush s
  | .wDrop => Sys2Proof.Machine.execWDrop s

end Sys2Proof.Machine
end

