-- ==== Sys2Proof/Machine/HostMoves.lean ====
section
/-! DEFINITION. What each move of the world outside does: a command word on a command port and its data bytes
(30_encoding.md R80, R87, R88), a late answer of a port (60_exceptions.md R236), direct access to a stream (20_memory.md
R70 to R72), wiring a port (70_reset_and_hazards.md R263) and power-on reset (R262).

A move that 20_memory.md R71 does not give the host, or the environment, is not made: the machine stays as it is (DEDUCED,
safe: log entry 12). -/

namespace Sys2Proof.Machine

/-! ## Commands -/

/-- A word on the reader's command port: the decoded command runs, and an illegal word is answered
`ILLEGAL_COMMAND` with no other effect (60_exceptions.md R226). -/
def acceptReaderWord (w : Word) (s : State) : Result State :=
  match decode .reader w with
  | .ok i => exec i s
  | .error _ => s.onReader fun _ r => r.raise .illegalCommand

/-- An illegal word on the writer's command port: its frame is taken and discarded (30_encoding.md R88), and it is
answered `ILLEGAL_COMMAND` with no other effect (60_exceptions.md R226). -/
def rejectFrame (len : Nat) (s : State) : Result State :=
  s.onWriter fun _ w => w.takeData (.illegal len) len fun _ => w.raise .illegalCommand

/-- What a writer is given to do by a word on its command port. -/
def writerJob (w : Word) : Job :=
  match decode .writer w with
  | .ok i => .command i
  | .error _ => .illegal (frameLength w)

/-- Carry a writer's job out, from its start. -/
def runJob (j : Job) (s : State) : Result State :=
  match j with
  | .command i => exec i s
  | .illegal len => rejectFrame len s

/-- The bytes the host sends behind a command word join the data-in channel (30_encoding.md R87). -/
def State.sendData (s : State) (data : List Byte) : State :=
  s.setWriter (s.writer.setDataIn (s.writer.dataIn ++ data))

/-- A move that is made only if it is one the world outside has. -/
def whenMove (ok : Bool) (s : State) (k : Result State) : Result State := if ok then k else .next s

/-- More of an outstanding frame's bytes: never more than the word's `LEN` in all (20_memory.md R71). -/
def supplyData (xs : List Byte) (s : State) : Result State :=
  match s.writer.rsp with
  | .waiting j (.dataIn len) =>
    whenMove (decide (s.writer.dataIn.length + xs.length ≤ len)) s (runJob j (s.sendData xs))
  | _ => .next s

/-! ## Late answers (60_exceptions.md R236)

The outstanding command is carried out again, with the answer as the port's next. What it did before its request, it does
not do twice: only `W_FLUSH` makes a second request, and by then its cursor is clear (42_writer.md R172, R183). -/

/-- The source answers the reader's outstanding request. -/
def sourceAnswers (d : SrcDraw) (s : State) : Result State :=
  match s.reader.rsp with
  | .waiting j (.srcRead _) => runJob j (s.setReader (s.reader.setPort (s.reader.port.decide d)))
  | _ => .next s

/-- The sink answers the writer's outstanding request. -/
def sinkAnswers (d : SnkDraw) (s : State) : Result State :=
  match s.writer.rsp with
  | .waiting j (.snkWrite _) => runJob j (s.setWriter (s.writer.setPort (s.writer.port.decide d)))
  | .waiting j .snkFlush => runJob j (s.setWriter (s.writer.setPort (s.writer.port.decide d)))
  | _ => .next s

/-! ## Direct access (20_memory.md R70 to R72) -/

/-- The windows in which the host may look at the stream (20_memory.md R71). -/
def Grant.admitsInspection : Grant → Bool
  | .none => false
  | .ref => true
  | .mut => true
  | .mutUnchecked => true
  | .released => false

/-- The windows in which the host may move the stream itself (20_memory.md R71). A stream that `INTO_INNER` has released
is the host's for good and not for a window: `released` says so. -/
def Grant.admitsMutation : Grant → Bool
  | .none => false
  | .ref => false
  | .mut => true
  | .mutUnchecked => true
  | .released => false

/-- The host may look at the source stream. -/
def Reader.mayInspect (r : Reader) : Bool := r.released || r.rsp.grant.admitsInspection

/-- The host may move the source stream itself. -/
def Reader.mayMutate (r : Reader) : Bool := r.released || r.rsp.grant.admitsMutation

/-- The host may look at the sink stream. -/
def Writer.mayInspect (w : Writer) : Bool := w.released || w.rsp.grant.admitsInspection

/-- The host may move the sink stream itself. -/
def Writer.mayMutate (w : Writer) : Bool := w.released || w.rsp.grant.admitsMutation

/-- The source port once the host has taken `n` bytes itself: no request of the engine's is answered (R72; DEDUCED: log
entry 21). -/
def SrcPort.consume (p : SrcPort) (n : Nat) : SrcPort := { p with stream := p.stream.drop n }

/-- The sink port once the host has appended `xs` itself (R72). -/
def SnkPort.append (p : SnkPort) (xs : List Byte) : SnkPort := { p with stream := p.stream ++ xs }

/-! ## Wiring (70_reset_and_hazards.md R263) -/

/-- A new source at the port. -/
def SrcPort.wire (p : SrcPort) (stream : List Byte) (draws : List SrcDraw) : SrcPort :=
  { p with stream := stream, draws := draws }

/-- A new sink at the port. -/
def SnkPort.wire (p : SnkPort) (stream : List Byte) (draws : List SnkDraw) : SnkPort :=
  { p with stream := stream, draws := draws }

/-! ## The moves -/

/-- What a move of the world outside does. A command is accepted only when the engine's last one has been answered
(20_memory.md R63), and a writer's with no more data bytes than its word frames (R71). A wired stream is one that no
engine has released yet (log entry 13). A power-on reset may come at any time, also while a command waits for its port or
for its data bytes: it abandons that command (DESIGN CHOICE: log entry 14). -/
def perform (m : HostMove) (s : State) : Result State :=
  match m with
  | .readerCommand w => whenMove (!s.reader.rsp.isWaiting) s (acceptReaderWord w s)
  | .writerCommand w data =>
    whenMove (!s.writer.rsp.isWaiting && decide (data.length ≤ frameLength w)) s (runJob (writerJob w) (s.sendData data))
  | .writerData xs => supplyData xs s
  | .sourceAnswers d => sourceAnswers d s
  | .sinkAnswers d => sinkAnswers d s
  | .inspectSource => whenMove s.reader.mayInspect s (.next (s.setView s.reader.port.stream))
  | .inspectSink => whenMove s.writer.mayInspect s (.next (s.setView s.writer.port.stream))
  | .consumeSource n =>
    whenMove s.reader.mayMutate s (.next (s.setReader (s.reader.setPort (s.reader.port.consume n))))
  | .appendSink xs =>
    whenMove s.writer.mayMutate s (.next (s.setWriter (s.writer.setPort (s.writer.port.append xs))))
  | .flushSink => whenMove s.writer.mayMutate s (.next s)
  | .wireSource stream draws =>
    whenMove (!s.reader.attached) s
      (.next (s.setReader ((s.reader.setPort (s.reader.port.wire stream draws)).setReleased false)))
  | .wireSink stream draws =>
    whenMove (!s.writer.attached) s
      (.next (s.setWriter ((s.writer.setPort (s.writer.port.wire stream draws)).setReleased false)))
  | .powerOnReset => .next ((s.setReader s.reader.powerOn).setWriter s.writer.powerOn)

/-! ## Placing a word -/

/-- The host's move that gives the word to the engine its `U` bit names, with a frame of zero bytes. -/
def commandMove (w : Word) : HostMove :=
  match unitField w with
  | .reader => .readerCommand w
  | .writer => .writerCommand w (List.replicate (frameLength w) 0)

/-- The reader with no command outstanding, so that it accepts the next one. -/
def Reader.ready (r : Reader) : Reader := if r.rsp.isWaiting then { r with rsp := .noCommand } else r

/-- The writer with no command outstanding, so that it accepts the next one; a frame that had not all come is gone. -/
def Writer.ready (w : Writer) : Writer := if w.rsp.isWaiting then { w with rsp := .noCommand, dataIn := [] } else w

/-- The state in which engine `u` accepts its next command. -/
def State.ready (s : State) (u : Engine) : State :=
  match u with
  | .reader => s.setReader s.reader.ready
  | .writer => s.setWriter s.writer.ready

end Sys2Proof.Machine
end

