-- ==== Sys2Proof/Machine/Step.lean ====
section
/-! DEFINITION. One step: the host's next move. -/

namespace Sys2Proof.Machine

/-- One step makes the next move of the world outside, and a command it gives runs to its end or to a request that its
port leaves unanswered (20_memory.md R63). While there is no move, both engines stay as they are. -/
def step (s : State) : Host.Outcome State Fault Refusal :=
  match s.host with
  | [] => .next s
  | m :: rest => perform m (s.setHost rest)

/-- The state whose next step runs the instruction with the numbered bits `w`: its word is the host's next move, with
a frame of zero bytes behind a `W_WRITE`, and its engine has no command outstanding, so that it accepts the word. -/
def State.withFetchWord (s : State) (nbits w : Nat) : State :=
  let word : Word := BitVec.ofNat 32 (w % 2 ^ nbits)
  (s.ready (unitField word)).setHost (commandMove word :: s.host)

end Sys2Proof.Machine
end

