-- ==== Sys2Proof/Machine/Observe.lean ====
section
/-! DEFINITION. What can be observed of the block from outside (60_exceptions.md R241): the response word and the side
channels of 30_encoding.md R93, and the register-inspection view. There is no debug, trace or performance facility, so
there is nothing else; the streams at the ports are the world's own (20_memory.md R70). -/

namespace Sys2Proof.Machine

/-- What an engine's response port shows the host: `RSP` and its side channels (30_encoding.md R90, R93). -/
structure Observation where
  /-- `RSP` (R90). -/
  word : Word
  /-- ERR: a value only for a port error (R93). -/
  err : Option ErrVal
  /-- DATA_OUT (R87). -/
  dataOut : List Byte
  /-- GRANT (R93). -/
  grant : Grant
  deriving DecidableEq, Repr

/-- A response as the host sees it (60_exceptions.md R241). -/
def Response.observed (p : Response) : Observation :=
  { word := p.word, err := p.status.err, dataOut := p.dataOut, grant := p.grant }

/-- The registers of the bit_reader_engine (10_state.md R20). -/
structure ReaderRegisters where
  attached : Bool
  off : Offset
  buf : Byte
  deriving DecidableEq, Repr

/-- The registers of the bit_writer_engine (10_state.md R30). -/
structure WriterRegisters where
  attached : Bool
  off : Offset
  buf : Byte
  cap : Half
  deriving DecidableEq, Repr

/-- The register-inspection view of a reader (60_exceptions.md R241; DESIGN CHOICE on what it shows: log entry 26). -/
def Reader.registers (r : Reader) : ReaderRegisters := { attached := r.attached, off := r.off, buf := r.buf }

/-- The register-inspection view of a writer (60_exceptions.md R241; DESIGN CHOICE on what it shows: log entry 26). -/
def Writer.registers (w : Writer) : WriterRegisters :=
  { attached := w.attached, off := w.off, buf := w.buf, cap := w.cap }

/-- What the reader's response port shows: nothing before the first command and while one is outstanding. -/
def Reader.shown (r : Reader) : Option Observation := r.rsp.given.map Response.observed

/-- What the writer's response port shows: nothing before the first command and while one is outstanding. -/
def Writer.shown (w : Writer) : Option Observation := w.rsp.given.map Response.observed

end Sys2Proof.Machine
end

