-- ==== Sys2Proof/Safety.lean ====
section
/-! DEFINITION. The terms in which claims speak of the machine: streams as bits (40_policy.md R118), the invariants of
10_state.md R24, R34 and R35, legal responses (30_encoding.md R90 to R93), runs of commands, the opcode map as a table of
masks (30_encoding.md R86), and the transfer tables of 20_memory.md R51 and R54. -/

namespace Sys2Proof.Machine

/-! ## Bits in stream order -/

/-- The bits of a byte in stream order (00_scope.md R10). -/
def byteBits (B : Endian) (v : Byte) : List Bool := (List.range 8).map (bitAt B v)

/-- The bits of a byte sequence in stream order (20_memory.md R56). -/
def streamBits (B : Endian) (xs : List Byte) : List Bool := xs.flatMap (byteBits B)

/-- `fieldBit(B, f, c, j)` (40_policy.md R118): the `j`-th bit in stream order of the `c`-bit field `f`. -/
def fieldBit : Endian → Byte → Nat → Nat → Bool
  | .msbFirst, f, c, j => f.getLsbD (c - 1 - j)
  | .lsbFirst, f, _, j => f.getLsbD j

/-- The `c` bits of a field in stream order. -/
def fieldBits (B : Endian) (f : Byte) (c : Nat) : List Bool := (List.range c).map (fieldBit B f c)

/-- `assemble(B, s_0, ...)` (40_policy.md R118): the first bit is the field's most significant one when MSB-first and
its least significant one when LSB-first. -/
def assemble : Endian → List Bool → Nat
  | .msbFirst, bits => bits.foldl (fun acc b => 2 * acc + b.toNat) 0
  | .lsbFirst, bits => bits.foldr (fun b acc => b.toNat + 2 * acc) 0

/-- The bits the reader has still to deliver: the rest of the byte it holds, then the source stream (10_state.md R24). -/
def Reader.ahead (B : Endian) (r : Reader) : List Bool :=
  (if r.off = 0 then [] else (byteBits B r.buf).drop r.off.toNat) ++ streamBits B r.port.stream

/-- The bits the writer has put out or holds pending: the sink stream, then the deposited bits (10_state.md R35). -/
def Writer.put (B : Endian) (w : Writer) : List Bool :=
  streamBits B w.port.stream ++ (byteBits B w.buf).take w.off.toNat

/-- The bits that the response to a reader command delivers, in stream order (41_reader.md R146). -/
def deliveredBits (B : Endian) (i : Instr) (p : Response) : List Bool :=
  match p.status, i with
  | .ok, .rReadBit => fieldBits B p.result8 1
  | .ok, .rReadBits c => fieldBits B p.result8 c
  | .ok, .rRead _ => streamBits B p.dataOut
  | _, _ => []

/-- The bits that a writer command whose response is `p` has taken from the host, in stream order (42_writer.md R190).
`d` is what stood on the data-in channel before the command. -/
def takenBits (B : Endian) (i : Instr) (d : List Byte) (p : Response) : List Bool :=
  match p.status, i with
  | .ok, .wWriteBit b => [b]
  | .ok, .wWriteBits bits c => fieldBits B bits c
  | .ok, .wWrite _ => streamBits B (d.take p.n)
  | _, _ => []

/-- The zero bits with which a writer command completes the partial byte it finds (70_reset_and_hazards.md R267). -/
def paddingBits (off : Offset) : List Bool := if off = 0 then [] else List.replicate (8 - off.toNat) false

/-- The bits by which one writer command, from state `s` to `t` with the response `p`, lengthens the writer's stream
(42_writer.md R190): what it takes from the host, or the padding of a partial byte that it wrote. -/
def contributedBits (i : Instr) (s : State) (p : Response) (t : State) : List Bool :=
  match i with
  | .wAlign => if t.writer.off = 0 then paddingBits s.writer.off else []
  | .wFlush => if t.writer.off = 0 then paddingBits s.writer.off else []
  | .wIntoInner => if t.writer.off = 0 then paddingBits s.writer.off else []
  | _ => takenBits s.params.writerEndian i s.writer.dataIn p

/-! ## The transfer tables -/

/-- The lengths of the `SrcRead` transactions a reader command makes (20_memory.md R51); a refused command makes none. -/
def srcRequests (r : Reader) : Instr → List Nat
  | .rReadBit => if r.attached ∧ r.off = 0 then [1] else []
  | .rReadBits c =>
    if r.attached ∧ 1 ≤ c ∧ c ≤ 8 ∧ (r.off = 0 ∨ 8 < r.off.toNat + c) then [1] else []
  | .rRead len => if r.attached then [len] else []
  | _ => []

/-- A sink transaction without its answer: the number of bytes offered, or a flush request. -/
inductive SnkRequest where
  | write (len : Nat)
  | flush
  deriving DecidableEq, Repr

/-- The request of an answered transaction. -/
def SnkTxn.request : SnkTxn → SnkRequest
  | .write offered _ => .write offered.length
  | .flush _ => .flush

/-- The partial byte's write, where there is a partial byte. -/
def partialRequest (w : Writer) : List SnkRequest := if w.attached ∧ w.off ≠ 0 then [.write 1] else []

/-- The partial byte, where there is one. -/
def Writer.partialOffer (w : Writer) : Option (List Byte) := if w.attached ∧ w.off ≠ 0 then some [w.buf] else none

/-- The sink transactions a writer command makes (20_memory.md R54), but for the `SnkFlush` of `W_FLUSH`, which follows
its byte write only if that did not fail. -/
def snkRequests (mode : StagingMode) (w : Writer) : Instr → List SnkRequest
  | .wWriteBit _ => if w.attached ∧ w.off = 7 then [.write 1] else []
  | .wWriteBits _ c => if w.attached ∧ c ≤ 8 ∧ 8 ≤ w.off.toNat + c then [.write 1] else []
  | .wAlign => partialRequest w
  | .wIntoInner => partialRequest w
  | .wDrop => partialRequest w
  | .wFlush => partialRequest w
  | .wWrite len =>
    if w.attached then
      [.write (if w.off = 0 then len else
        match mode with
        | .bounded => min len w.cap.toNat
        | .perCall => len)]
    else []
  | _ => []

/-- The bytes of the first `SnkWrite` a writer command makes, if it makes one (20_memory.md R54). -/
def Writer.firstOffer (p : Params) (w : Writer) : Instr → Option (List Byte)
  | .wWriteBit b =>
    if w.attached ∧ w.off = 7 then some [w.buf ||| shl8 (bitByte b) (pos p.writerEndian 7)] else none
  | .wWriteBits bits c =>
    if w.attached ∧ c ≤ 8 ∧ 8 ≤ w.off.toNat + c then
      some [w.buf ||| shiftTowardLsb p.writerEndian (place p.writerEndian bits c) w.off.toNat]
    else none
  | .wAlign => w.partialOffer
  | .wIntoInner => w.partialOffer
  | .wDrop => w.partialOffer
  | .wFlush => w.partialOffer
  | .wWrite len =>
    if w.attached then
      some (if w.off = 0 then w.dataIn.take len else
        stageShifted p.writerEndian w.off.toNat w.buf
          ((w.dataIn.take len).take (stagedCount p.stagingMode w.cap (w.dataIn.take len).length)))
    else none
  | _ => none

/-- The requests made so far on the source port, an outstanding one included. -/
def Reader.requested (r : Reader) : List Nat :=
  r.port.log.map SrcTxn.asked ++
    match r.rsp with
    | .waiting _ (.srcRead len) => [len]
    | _ => []

/-- The requests made so far on the sink port, an outstanding one included. -/
def Writer.requested (w : Writer) : List SnkRequest :=
  w.port.log.map SnkTxn.request ++
    match w.rsp with
    | .waiting _ (.snkWrite offered) => [.write offered.length]
    | .waiting _ .snkFlush => [.flush]
    | _ => []

/-! ## Invariants -/

/-- Only pending bits are set: the bits of `w_buf` at policy indices from `w_off` on are 0 (10_state.md R35). -/
def Writer.PendingOnly (B : Endian) (w : Writer) : Prop :=
  ∀ i, w.off.toNat ≤ i → i < 8 → bitAt B w.buf i = false

/-- The values a detached reader keeps (41_reader.md R140, R142, 10_state.md R41). -/
def Reader.DetachedClear (r : Reader) : Prop := r.attached = false → r.off = 0 ∧ r.buf = 0

/-- The values a detached writer keeps (42_writer.md R181, R184, 10_state.md R41). -/
def Writer.DetachedClear (w : Writer) : Prop := w.attached = false → w.off = 0 ∧ w.buf = 0

/-- The statuses a reader gives (30_encoding.md R92): it neither writes nor unwraps a writer. -/
def Status.ofReader : Status → Bool
  | .ioError .writeZero => false
  | .flushOnUnwrap _ => false
  | _ => true

/-- The statuses a writer gives (30_encoding.md R92): it fetches nothing. -/
def Status.ofWriter : Status → Bool
  | .ioError .unexpectedEof => false
  | .flushOnUnwrap .unexpectedEof => false
  | _ => true

/-- What a response that is not `OK` carries beside its status: nothing (30_encoding.md R90, R93). `N` never leaves its
sixteen bits (40_policy.md R123). -/
def Response.Shaped (p : Response) : Prop :=
  (p.status ≠ .ok → p.result8 = 0 ∧ p.n = 0 ∧ p.dataOut = [] ∧ p.grant = .none) ∧ p.n ≤ 65535

/-- Every reader response is one the spec lists, with as many data-out bytes as it counts (30_encoding.md R87). -/
def Reader.ResponseLegal (r : Reader) : Prop :=
  ∀ p, r.rsp = .response p → p.Shaped ∧ p.status.ofReader = true ∧ p.dataOut.length = p.n

/-- Every writer response is one the spec lists, with no data-out byte (30_encoding.md R87). -/
def Writer.ResponseLegal (w : Writer) : Prop :=
  ∀ p, w.rsp = .response p → p.Shaped ∧ p.status.ofWriter = true ∧ p.dataOut = []

/-- A released source is not the reader's any more (20_memory.md R71). -/
def Reader.ReleasedDetached (r : Reader) : Prop := r.released = true → r.attached = false

/-- A released sink is not the writer's any more (20_memory.md R71). -/
def Writer.ReleasedDetached (w : Writer) : Prop := w.released = true → w.attached = false

/-- An outstanding reader command is one that a command word encodes (30_encoding.md R80), and it waits for the answer to
the request it makes (60_exceptions.md R236, 20_memory.md R51). -/
def Reader.WaitLegal (r : Reader) : Prop :=
  ∀ j q, r.rsp = .waiting j q → ∃ i len, j = .command i ∧ i.wellFormed = true ∧ q = .srcRead len ∧ len ∈ srcRequests r i

/-- An outstanding writer job is one that a command word encodes (30_encoding.md R80), and it waits for the answer to the
request it makes (60_exceptions.md R236, 20_memory.md R54), or for the rest of its data bytes (30_encoding.md R87, R88). -/
def Writer.WaitLegal (p : Params) (w : Writer) : Prop :=
  ∀ j q, w.rsp = .waiting j q →
    (match j with
     | .command i => i.wellFormed = true
     | .illegal len => len ≤ 65535) ∧
    match q with
    | .srcRead _ => False
    | .snkWrite xs => ∃ i, j = .command i ∧ w.firstOffer p i = some xs
    | .snkFlush => j = .command .wFlush ∧ w.attached = true ∧ w.off = 0
    | .dataIn len => j = .command (.wWrite len) ∨ j = .illegal len

/-- The data-in channel holds bytes of the outstanding word's frame and no others (30_encoding.md R87, 20_memory.md
R71): some while the writer waits for the rest, all of them while it waits for the sink, and none otherwise. -/
def Writer.FrameLegal (w : Writer) : Prop :=
  match w.rsp with
  | .waiting _ (.dataIn len) => w.dataIn.length < len
  | .waiting (.command (.wWrite len)) _ => w.dataIn.length = len
  | _ => w.dataIn = []

/-- The invariant of the machine. -/
structure State.Inv (s : State) : Prop where
  pendingOnly : s.writer.PendingOnly s.params.writerEndian
  capacityPositive : s.writer.cap ≠ 0
  readerDetached : s.reader.DetachedClear
  writerDetached : s.writer.DetachedClear
  readerResponse : s.reader.ResponseLegal
  writerResponse : s.writer.ResponseLegal
  readerReleased : s.reader.ReleasedDetached
  writerReleased : s.writer.ReleasedDetached
  readerWaits : s.reader.WaitLegal
  writerWaits : s.writer.WaitLegal s.params
  frame : s.writer.FrameLegal

/-! ## Runs -/

/-- Where an engine stands with its host. -/
def State.reply (s : State) : Engine → Reply
  | .reader => s.reader.rsp
  | .writer => s.writer.rsp

/-- The status of an engine's last response, if its last command has been answered. -/
def State.status (s : State) (u : Engine) : Option Status := (s.reply u).given.map Response.status

/-- The attachment bit of an engine. -/
def State.attached (s : State) : Engine → Bool
  | .reader => s.reader.attached
  | .writer => s.writer.attached

/-- Run one command to its response; `none` while it waits. -/
def answered (i : Instr) (s : State) : Option (Response × State) :=
  match exec i s with
  | .next t => (t.reply i.engine).given.map fun p => (p, t)
  | .fault _ => none
  | .refused _ => none

/-- Run commands one after another; `none` once one of them waits. -/
def runCommands : List Instr → State → Option State
  | [], s => some s
  | i :: is, s => (answered i s).bind fun x => runCommands is x.2

/-- Run reader commands and collect the bits they deliver (41_reader.md R146); `none` once one of them waits. -/
def runDelivering : List Instr → State → Option (List Bool × State)
  | [], s => some ([], s)
  | i :: is, s =>
    (answered i s).bind fun x =>
      (runDelivering is x.2).map fun y => (deliveredBits s.params.readerEndian i x.1 ++ y.1, y.2)

/-- Run writer commands and collect the bits they add to the writer's stream (42_writer.md R190); `none` once one of them
waits. -/
def runTaking : List Instr → State → Option (List Bool × State)
  | [], s => some ([], s)
  | i :: is, s =>
    (answered i s).bind fun x => (runTaking is x.2).map fun y => (contributedBits i s x.1 x.2 ++ y.1, y.2)

/-- Run `R_READ_BITS` with each of the counts and collect the results; `none` unless every one answers `OK`. -/
def readFields : List Nat → State → Option (List Byte × State)
  | [], s => some ([], s)
  | c :: cs, s =>
    (answered (.rReadBits c) s).bind fun x =>
      if x.1.status = .ok then (readFields cs x.2).map fun y => (x.1.result8 :: y.1, y.2) else none

/-- Run `W_WRITE_BITS` with each of the fields; `none` unless every one answers `OK`. -/
def writeFields : List (Byte × Nat) → State → Option State
  | [], s => some s
  | f :: fs, s =>
    (answered (.wWriteBits f.1 f.2) s).bind fun x => if x.1.status = .ok then writeFields fs x.2 else none

/-- A bit stream cut into consecutive groups, each given as the field it makes (20_memory.md R68). -/
def cutFields (B : Endian) : List Nat → List Bool → List (Byte × Nat)
  | [], _ => []
  | c :: cs, bits => (BitVec.ofNat 8 (assemble B (bits.take c)), c) :: cutFields B cs (bits.drop c)

/-! ## The opcode map as a table (30_encoding.md R86) -/

/-- One row: a word matches it when `CMD & mask = match`. -/
structure OpcodeRow where
  engine : Engine
  pattern : Word
  mask : Word
  deriving DecidableEq, Repr

/-- The word matches the row. -/
def OpcodeRow.matches (r : OpcodeRow) (w : Word) : Prop := w &&& r.mask = r.pattern

/-- The reader's rows. -/
def readerRows : List OpcodeRow :=
  [⟨.reader, 0x00000001, 0xFFFFFFFF⟩, ⟨.reader, 0x00000002, 0xFFFFFFFF⟩, ⟨.reader, 0x00000003, 0xFFFFF0FF⟩,
   ⟨.reader, 0x00000004, 0xFFFFFFFF⟩, ⟨.reader, 0x00000005, 0xFFFFFFFF⟩, ⟨.reader, 0x00000006, 0xFFFFFFFF⟩,
   ⟨.reader, 0x00000007, 0xFFFFFFFF⟩, ⟨.reader, 0x00000008, 0xFFFFFFFF⟩, ⟨.reader, 0x00000009, 0xFFFFFFFF⟩,
   ⟨.reader, 0x0000000A, 0x0000FFFF⟩, ⟨.reader, 0x0000000C, 0xFFFFFFFF⟩]

/-- The writer's rows. -/
def writerRows : List OpcodeRow :=
  [⟨.writer, 0x00000011, 0x0000FFFF⟩, ⟨.writer, 0x00000012, 0xFFFEFFFF⟩, ⟨.writer, 0x00000013, 0xFF00F0FF⟩,
   ⟨.writer, 0x00000014, 0xFFFFFFFF⟩, ⟨.writer, 0x00000015, 0xFFFFFFFF⟩, ⟨.writer, 0x00000016, 0xFFFFFFFF⟩,
   ⟨.writer, 0x00000017, 0xFFFFFFFF⟩, ⟨.writer, 0x00000018, 0xFFFFFFFF⟩, ⟨.writer, 0x00000019, 0xFFFFFFFF⟩,
   ⟨.writer, 0x0000001A, 0x0000FFFF⟩, ⟨.writer, 0x0000001B, 0xFFFFFFFF⟩, ⟨.writer, 0x0000001C, 0xFFFFFFFF⟩]

/-- The rows of an engine's unit. -/
def rowsOf : Engine → List OpcodeRow
  | .reader => readerRows
  | .writer => writerRows

end Sys2Proof.Machine
end

