-- ==== Sys2Proof/Certificates/Slice0/Obligations.lean ====
section
/-! DEFINITION. The statements about the machine, for the provers. Each docstring names the rules of spec/ it rests on.
Result statements give the whole next state as a record, so that every field they do not name is unchanged. -/

open Sys2Proof Sys2Proof.Machine

/-! ## Encoding -/

/-- Decoding the encoding of a well-formed command gives it back (30_encoding.md R80 to R86, R94). -/
def Obligations.DecodeOfEncode : Prop :=
  ∀ i : Instr, i.wellFormed = true → decode i.engine (encode i) = .ok i

/-- A legal word is the encoding of the one well-formed command it decodes to, which belongs to the engine that got it:
no bit of a word is ignored (30_encoding.md R80 to R88). -/
def Obligations.EncodeOfDecode : Prop :=
  ∀ (u : Engine) (w : Word) (i : Instr), decode u w = .ok i → i.wellFormed = true ∧ i.engine = u ∧ encode i = w

/-- R89: every word given to an engine is matched by exactly one row of the opcode map for its unit, or is illegal; and
no two rows of a unit overlap. -/
def Obligations.OpcodeMapIsTotalAndUnambiguous : Prop :=
  (∀ (u : Engine) (w : Word), (∃ i, decode u w = .ok i) ↔ ∃ r ∈ rowsOf u, r.matches w) ∧
  (∀ (u : Engine) (w : Word), ∀ r ∈ rowsOf u, ∀ q ∈ rowsOf u, r.matches w → q.matches w → r = q)

/-- Words written out from R80 to R86 and the examples of R96 decode to what they stand for, and four illegal words to no
command. Which reason an illegal word is given is the model's own naming (DESIGN CHOICE: log entry 19). -/
def Obligations.SampleWordsDecode : Prop :=
  decode .reader 0x00000001 = .ok .rNew ∧ decode .reader 0x00000803 = .ok (.rReadBits 8) ∧
  decode .reader 0x0004000A = .ok (.rRead 4) ∧ decode .writer 0x00040011 = .ok (.wNew 4) ∧
  decode .writer 0x00010012 = .ok (.wWriteBit true) ∧ decode .writer 0x00BC0813 = .ok (.wWriteBits 0xBC 8) ∧
  decode .writer 0x0000001B = .ok .wFlush ∧ decode .reader 0x0000000B = .error .unusedOpcode ∧
  decode .reader 0x00000024 = .error .reservedBits ∧ decode .writer 0x00020012 = .error .operandField ∧
  decode .writer 0x00000003 = .error .wrongUnit

/-! ## The policy datapath -/

/-- R116: the two shifts move every bit along the policy index, toward the front and toward the back of the stream. -/
def Obligations.ShiftsMoveAlongPolicyIndex : Prop :=
  ∀ (B : Endian) (v : Byte) (k i : Nat), k ≤ 8 → i ≤ 7 →
    bitAt B (shiftTowardMsb B v k) i = (if i + k ≤ 7 then bitAt B v (i + k) else false) ∧
    bitAt B (shiftTowardLsb B v k) i = (if k ≤ i then bitAt B v (i - k) else false)

/-- R119: `extract` is the field whose stream bits are the first `c` bits of the byte, in both its forms. -/
def Obligations.ExtractAssemblesFirstBits : Prop :=
  ∀ (B : Endian) (w : Byte) (c : Nat), c ≤ 8 →
    extract B w c = alignRight B (shiftTowardLsb B w (8 - c)) c ∧
    extract .msbFirst w c = w >>> (8 - c) ∧ extract .lsbFirst w c = w &&& BitVec.ofNat 8 (2 ^ c - 1) ∧
    (extract B w c).toNat = assemble B ((byteBits B w).take c) ∧ (extract B w c).toNat < 2 ^ c ∧
    fieldBits B (extract B w c) c = (byteBits B w).take c ∧
    extract B w 0 = 0 ∧ extract B w 8 = w

/-- R120: `place` lays the field's stream bits at policy indices 0 to `c - 1`, uses the low `c` bits only, and is undone
by `extract`. -/
def Obligations.PlaceLaysFieldBits : Prop :=
  ∀ (B : Endian) (f : Byte) (c : Nat), c ≤ 8 →
    place .msbFirst f c = (f &&& mask c) <<< (8 - c) ∧ place .lsbFirst f c = f &&& mask c ∧
    byteBits B (place B f c) = fieldBits B (f &&& mask c) c ++ List.replicate (8 - c) false ∧
    place B f c = place B (f &&& mask c) c ∧ extract B (place B f c) c = f &&& mask c ∧ place B f 0 = 0

/-- R121: the reader window is the undelivered bits of the last byte, then the first bits of the next. -/
def Obligations.ReaderWindowJoinsBytes : Prop :=
  ∀ (B : Endian) (prev curr : Byte) (o : Nat), 1 ≤ o → o ≤ 7 →
    rcombine .msbFirst prev curr o = prev <<< o ||| curr >>> (8 - o) ∧
    rcombine .lsbFirst prev curr o = prev >>> o ||| curr <<< (8 - o) ∧
    byteBits B (rcombine B prev curr o) = (byteBits B prev).drop o ++ (byteBits B curr).take o

/-- R122: the writer window is the pending bits, then the first bits of the data byte, whose last bits stay pending. -/
def Obligations.WriterWindowJoinsBytes : Prop :=
  ∀ (B : Endian) (p d : Byte) (o : Nat), 1 ≤ o → o ≤ 7 → (∀ i, o ≤ i → i < 8 → bitAt B p i = false) →
    wcombine .msbFirst p d o = p ||| d >>> o ∧ wtail .msbFirst d o = d <<< (8 - o) ∧
    wcombine .lsbFirst p d o = p ||| d <<< o ∧ wtail .lsbFirst d o = d >>> (8 - o) ∧
    byteBits B (wcombine B p d o) = (byteBits B p).take o ++ (byteBits B d).take (8 - o) ∧
    byteBits B (wtail B d o) = (byteBits B d).drop (8 - o) ++ List.replicate (8 - o) false

/-! ## Reset and the step -/

/-- The power-on values of R41 and R260 for every instance, detached, with no command outstanding; `State.reset` has them too.
That `State.reset` is one particular instance with empty streams is the model's choice (log entries 1, 6 and 7). -/
def Obligations.PowerOnValues : Prop :=
  (∀ p : Params, (State.powerOn p).params = p ∧
    (State.powerOn p).reader.attached = false ∧ (State.powerOn p).reader.off = 0 ∧ (State.powerOn p).reader.buf = 0 ∧
    (State.powerOn p).writer.attached = false ∧ (State.powerOn p).writer.off = 0 ∧ (State.powerOn p).writer.buf = 0 ∧
    (State.powerOn p).writer.cap = 16 ∧
    (State.powerOn p).reader.rsp = .noCommand ∧ (State.powerOn p).writer.rsp = .noCommand) ∧
  ∃ p : Params, State.reset = State.powerOn p

/-- R262: power-on reset of the machine in any state makes no transfer and no teardown: both ports stay as they are, the
pending and undelivered bits are gone with the registers, and the parameters are kept. No command is outstanding after it
(R260). That it may come while a command waits, and that a stream handed over for good stays so, is the model's choice
(log entries 14 and 13). -/
def Obligations.PowerOnResetMakesNoTransfer : Prop :=
  ∀ (s : State) (rest : List HostMove), s.host = .powerOnReset :: rest →
    ∃ t, step s = .next t ∧ t.params = s.params ∧ t.host = rest ∧
      t.reader.port = s.reader.port ∧ t.writer.port = s.writer.port ∧
      t.reader.attached = false ∧ t.reader.off = 0 ∧ t.reader.buf = 0 ∧
      t.writer.attached = false ∧ t.writer.off = 0 ∧ t.writer.buf = 0 ∧ t.writer.cap = 16 ∧
      t.reader.rsp = .noCommand ∧ t.writer.rsp = .noCommand ∧
      t.reader.released = s.reader.released ∧ t.writer.released = s.writer.released

/-- A legal word on the command port of a reader that waits for nothing: the step is `exec` of the decoded command, once
the host's move is off the list. -/
def Obligations.StepRunsReaderCommand : Prop :=
  ∀ (s : State) (w : Word) (rest : List HostMove) (i : Instr), s.host = .readerCommand w :: rest →
    s.reader.rsp.isWaiting = false → decode .reader w = .ok i → step s = exec i { s with host := rest }

/-- A legal word on the command port of a writer that waits for nothing, with no more data bytes than it frames: the step
is `exec` of the decoded command, once the host's move is off the list and the bytes sent behind the word have joined the
data-in channel. -/
def Obligations.StepRunsWriterCommand : Prop :=
  ∀ (s : State) (w : Word) (data : List Byte) (rest : List HostMove) (i : Instr),
    s.host = .writerCommand w data :: rest → s.writer.rsp.isWaiting = false → data.length ≤ frameLength w →
    decode .writer w = .ok i →
    step s = exec i
      { s with host := rest, writer := { s.writer with dataIn := s.writer.dataIn ++ data } }

/-- The word that `withFetchWord` places is the one the next step runs, with a frame of zero bytes behind a `W_WRITE`, in
the state in which its engine waits for nothing. -/
def Obligations.StepRunsTheWordPlaced : Prop :=
  ∀ (s : State) (nbits w : Nat) (i : Instr), decodeTableWord nbits w = some i →
    let v := s.ready i.engine
    step (s.withFetchWord nbits w) = exec i
      (match i with
       | .wWrite len => { v with writer := { v.writer with dataIn := v.writer.dataIn ++ List.replicate len 0 } }
       | _ => v)

/-- R226: an illegal word is answered `ILLEGAL_COMMAND`, with no state change, no transfer and no data-out byte; if it
is given to a writer with `U` 1 and `OP` 0xA, its `CMD[31:16]` data bytes are taken and discarded (R88). -/
def Obligations.IllegalWordRefused : Prop :=
  (∀ (s : State) (w : Word) (rest : List HostMove) (e : Illegal), s.host = .readerCommand w :: rest →
    s.reader.rsp.isWaiting = false → decode .reader w = .error e →
    step s = .next { s with
      host := rest,
      reader := { s.reader with rsp := .response { status := .illegalCommand, dataOut := [] } } }) ∧
  (∀ (s : State) (w : Word) (data : List Byte) (rest : List HostMove) (e : Illegal),
    s.host = .writerCommand w data :: rest → s.writer.rsp.isWaiting = false → decode .writer w = .error e →
    data.length = (if w.extractLsb' 0 5 = 0x1A#5 then (w >>> 16).toNat else 0) → s.writer.dataIn = [] →
    step s = .next { s with
      host := rest, writer := { s.writer with rsp := .response { status := .illegalCommand } } })

/-! ## The ports -/

/-- R50: data answered to `SrcRead(L)` is the front of the stream and leaves it, an error removes nothing, and the
transaction is recorded. R55: no answer is longer than asked for, a request of length 0 is answered with no data, and
every front of the stream within the length can be the answer, as can every error to a request that is not empty. While
the port is silent nothing moves (R236). -/
def Obligations.SourcePortContract : Prop :=
  (∀ (p : SrcPort) (len : Nat) (a : SrcAnswer), p.answer len = some a →
    (p.after len a).log = p.log ++ [⟨len, a⟩] ∧
    match a with
    | .data xs => xs.length ≤ len ∧ p.stream = xs ++ (p.after len a).stream
    | .err _ => 0 < len ∧ (p.after len a).stream = p.stream) ∧
  (∀ (p : SrcPort) (len k : Nat) (ds : List SrcDraw), k ≤ len → k ≤ p.stream.length →
    p.draws = .deliver k :: ds → p.answer len = some (.data (p.stream.take k))) ∧
  (∀ (p : SrcPort) (len : Nat) (e : ErrVal) (ds : List SrcDraw), 0 < len →
    p.draws = .err e :: ds → p.answer len = some (.err e)) ∧
  (∀ (p : SrcPort) (len : Nat) (ds : List SrcDraw), p.draws = .block :: ds →
    p.answer len = none ∧ p.silent.stream = p.stream ∧ p.silent.log = p.log)

/-- R52: `Ack(m)` appends the first `m` bytes of the offer to the sink stream, an error appends none, and the transaction
is recorded. R55: no answer accepts more than was offered, an empty offer is answered `Ack(0)`, and every number of
bytes up to the offer's length can be accepted, as can every error be given to an offer that is not empty. `SnkFlush` is
answered `Ok` or by any error, appends nothing, and is recorded. While the port is silent nothing moves (R236). -/
def Obligations.SinkPortContract : Prop :=
  (∀ (p : SnkPort) (xs : List Byte) (a : SnkAnswer), p.answer xs = some a →
    (p.after xs a).log = p.log ++ [.write xs a] ∧
    match a with
    | .ack m => m ≤ xs.length ∧ (p.after xs a).stream = p.stream ++ xs.take m
    | .err _ => xs ≠ [] ∧ (p.after xs a).stream = p.stream) ∧
  (∀ (p : SnkPort) (xs : List Byte) (m : Nat) (ds : List SnkDraw), m ≤ xs.length →
    p.draws = .accept m :: ds → p.answer xs = some (.ack m)) ∧
  (∀ (p : SnkPort) (xs : List Byte) (e : ErrVal) (ds : List SnkDraw), xs ≠ [] →
    p.draws = .err e :: ds → p.answer xs = some (.err e)) ∧
  (∀ (p : SnkPort) (a : FlushAnswer),
    (p.afterFlush a).stream = p.stream ∧ (p.afterFlush a).log = p.log ++ [.flush a]) ∧
  (∀ (p : SnkPort) (m : Nat) (ds : List SnkDraw), p.draws = .accept m :: ds → p.flushAnswer = some .ok) ∧
  (∀ (p : SnkPort) (e : ErrVal) (ds : List SnkDraw), p.draws = .err e :: ds → p.flushAnswer = some (.err e)) ∧
  (∀ (p : SnkPort) (xs : List Byte) (ds : List SnkDraw), p.draws = .block :: ds →
    p.answer xs = none ∧ p.flushAnswer = none ∧ p.silent.stream = p.stream ∧ p.silent.log = p.log)

/-! ## Reader commands -/

/-- R132: `R_NEW` attaches and initialises a detached reader, and is refused on an attached one. That it takes a released
source back is read from R71 (DEDUCED: log entry 13). -/
def Obligations.NewReaderAttaches : Prop :=
  encode .rNew = 0x00000001 ∧
  ∀ s : State,
    (s.reader.attached = false → exec .rNew s = .next
      { s with reader := { s.reader with
        attached := true, off := 0, buf := 0, released := false, rsp := .response { status := .ok } } }) ∧
    (s.reader.attached = true → exec .rNew s = .next
      { s with reader := { s.reader with rsp := .response { status := .sequenceError .alreadyAttached } } })

/-- R133: `R_READ_BIT` delivers the bit at policy index `r_off`, of the buffer or, at offset 0, of the one byte it
fetches; the offset advances modulo 8; a failed fetch changes no register. -/
def Obligations.ReadBitDeliversNextBit : Prop :=
  encode .rReadBit = 0x00000002 ∧
  ∀ s : State, s.reader.attached = true →
    let r := s.reader
    let B := s.params.readerEndian
    (r.off ≠ 0 → exec .rReadBit s = .next
      { s with reader := { r with
        off := r.off + 1,
        rsp := .response { status := .ok, result8 := if bitAt B r.buf r.off.toNat then 1 else 0 } } }) ∧
    (r.off = 0 → ∀ a, r.port.answer 1 = some a → exec .rReadBit s = .next
      { s with reader :=
        match a with
        | .data (x :: _) => { r with
            off := 1, buf := x, port := r.port.after 1 a,
            rsp := .response { status := .ok, result8 := if bitAt B x 0 then 1 else 0 } }
        | .data [] => { r with port := r.port.after 1 a, rsp := .response { status := .ioError .unexpectedEof } }
        | .err e => { r with port := r.port.after 1 a, rsp := .response { status := .ioError (.portError e) } } })

/-- R134: `R_READ_BITS c`: nothing happens for `c = 0`; a field inside the current partial byte is taken from it;
otherwise exactly one byte is fetched, and a failed fetch changes no register. A count above 8 is refused before any
transfer. A result is below `2 ^ c`. -/
def Obligations.ReadBitsDeliversField : Prop :=
  ∀ (s : State) (c : Nat), s.reader.attached = true → c ≤ 15 →
    let r := s.reader
    let B := s.params.readerEndian
    let o := r.off.toNat
    encode (.rReadBits c) = BitVec.ofNat 32 (c <<< 8 ||| 0x03) ∧
    (8 < c → exec (.rReadBits c) s = .next
      { s with reader := { r with rsp := .response { status := .programmerError .countGt8 } } }) ∧
    (c = 0 → exec (.rReadBits c) s = .next { s with reader := { r with rsp := .response { status := .ok } } }) ∧
    (1 ≤ c → c ≤ 8 → 1 ≤ o → o + c ≤ 8 → exec (.rReadBits c) s = .next
      { s with reader := { r with
        off := BitVec.ofNat 3 (o + c),
        rsp := .response { status := .ok, result8 := extract B (shiftTowardMsb B r.buf o) c } } }) ∧
    (1 ≤ c → c ≤ 8 → o = 0 ∨ 8 < o + c → ∀ a, r.port.answer 1 = some a → exec (.rReadBits c) s = .next
      { s with reader :=
        match a with
        | .data (x :: _) => { r with
            off := BitVec.ofNat 3 (o + c), buf := x, port := r.port.after 1 a,
            rsp := .response { status := .ok, result8 := extract B (if o = 0 then x else rcombine B r.buf x o) c } }
        | .data [] => { r with port := r.port.after 1 a, rsp := .response { status := .ioError .unexpectedEof } }
        | .err e => { r with port := r.port.after 1 a, rsp := .response { status := .ioError (.portError e) } } }) ∧
    (∀ t p, exec (.rReadBits c) s = .next t → t.reader.rsp = .response p → p.status = .ok → p.result8.toNat < 2 ^ c)

/-- R135, R137, R138 and R139: the four reader commands that change nothing but the response: the alignment report and
the three grants, of which `GET_MUT` is refused unless aligned. -/
def Obligations.ReaderQueriesAnswer : Prop :=
  encode .rIsAligned = 0x00000004 ∧ encode .rGetRef = 0x00000006 ∧ encode .rGetMut = 0x00000007 ∧
  encode .rGetMutUnchecked = 0x00000008 ∧
  ∀ s : State, s.reader.attached = true →
    let answered (p : Response) : State := { s with reader := { s.reader with rsp := .response p } }
    exec .rIsAligned s = .next (answered { status := .ok, result8 := if s.reader.off = 0 then 1 else 0 }) ∧
    exec .rGetRef s = .next (answered { status := .ok, grant := .ref }) ∧
    exec .rGetMutUnchecked s = .next (answered { status := .ok, grant := .mutUnchecked }) ∧
    (s.reader.off = 0 → exec .rGetMut s = .next (answered { status := .ok, grant := .mut })) ∧
    (s.reader.off ≠ 0 → exec .rGetMut s = .next (answered { status := .programmerError .getMutUnaligned }))

/-- R136, R140 and R142: the three reader commands that discard the undelivered bits, with no transfer; `R_DROP` of a
detached reader is a no-op answered `OK`. `R_INTO_INNER` releases the source for good (R71; DEDUCED: log entry 13). -/
def Obligations.ReaderDiscards : Prop :=
  encode .rAlign = 0x00000005 ∧ encode .rIntoInner = 0x00000009 ∧ encode .rDrop = 0x0000000C ∧
  ∀ s : State,
    (s.reader.attached = true →
      exec .rAlign s = .next
        { s with reader := { s.reader with off := 0, buf := 0, rsp := .response { status := .ok } } } ∧
      exec .rIntoInner s = .next
        { s with reader := { s.reader with
          attached := false, off := 0, buf := 0, released := true,
          rsp := .response { status := .ok, grant := .released } } } ∧
      exec .rDrop s = .next
        { s with reader := { s.reader with attached := false, off := 0, buf := 0, rsp := .response { status := .ok } } }) ∧
    (s.reader.attached = false →
      exec .rDrop s = .next { s with reader := { s.reader with rsp := .response { status := .ok } } })

/-- R141: `R_READ L` makes one request; when aligned the bytes pass through, otherwise byte `j` of the result joins the
bytes before and at position `j`; the last byte becomes the buffer, the offset stays, and an error changes nothing. -/
def Obligations.ReadDeliversBytes : Prop :=
  ∀ (s : State) (len : Nat), s.reader.attached = true → len ≤ 65535 →
    let r := s.reader
    let B := s.params.readerEndian
    encode (.rRead len) = BitVec.ofNat 32 (len <<< 16 ||| 0x0A) ∧
    (∀ e, r.port.answer len = some (.err e) → exec (.rRead len) s = .next
      { s with reader := { r with
        port := r.port.after len (.err e), rsp := .response { status := .ioError (.portError e) } } }) ∧
    (∀ xs, r.port.answer len = some (.data xs) → r.off = 0 → exec (.rRead len) s = .next
      { s with reader := { r with
        port := r.port.after len (.data xs), rsp := .response { status := .ok, n := xs.length, dataOut := xs } } }) ∧
    (∀ xs, r.port.answer len = some (.data xs) → r.off ≠ 0 → ∃ out : List Byte,
      out.length = xs.length ∧
      (∀ j, j < xs.length → out.getD j 0 = rcombine B ((r.buf :: xs).getD j 0) (xs.getD j 0) r.off.toNat) ∧
      exec (.rRead len) s = .next
        { s with reader := { r with
          buf := (r.buf :: xs).getD xs.length 0, port := r.port.after len (.data xs),
          rsp := .response { status := .ok, n := xs.length, dataOut := out } } })

/-- R143: `R_READ_BIT` is `R_READ_BITS 1`, in every state: both end in the same state, or both wait for the same byte. -/
def Obligations.ReadBitIsReadBitsOne : Prop :=
  ∀ s : State, ∃ t, exec .rReadBit s = .next t ∧
    (exec (.rReadBits 1) s = .next t ∨
     (t.reader.rsp = .waiting (.command .rReadBit) (.srcRead 1) ∧
      exec (.rReadBits 1) s = .next
        { t with reader := { t.reader with rsp := .waiting (.command (.rReadBits 1)) (.srcRead 1) } }))

/-- R144: the bytes an `R_READ` delivers are the results of as many 8-bit reads whose fetches get the same bytes, which
end at the same offset and, at a non-zero offset, with the same buffer. -/
def Obligations.ReadIsEightBitReads : Prop :=
  ∀ (s t : State) (len : Nat) (xs : List Byte), s.reader.attached = true →
    s.reader.port.answer len = some (.data xs) → exec (.rRead len) s = .next t →
    ∃ (p : Response) (u : State),
      t.reader.rsp = .response p ∧ p.n = xs.length ∧
      readFields (List.replicate xs.length 8)
        { s with reader := { s.reader with
          port := { s.reader.port with draws := List.replicate xs.length (.deliver 1) } } } = some (p.dataOut, u) ∧
      u.reader.off = t.reader.off ∧ (t.reader.off ≠ 0 → u.reader.buf = t.reader.buf) ∧
      u.reader.port.stream = t.reader.port.stream

/-- R51: each reader command makes exactly the source transactions of the table, one that the port has not answered yet
included, and no writer command makes any. -/
def Obligations.SourceTransferTable : Prop :=
  ∀ (i : Instr) (s t : State), exec i s = .next t →
    (i.engine = .reader →
      t.reader.requested = s.reader.port.log.map SrcTxn.asked ++ srcRequests s.reader i) ∧
    (i.engine = .writer → t.reader = s.reader)

/-- R146: the bits delivered by a run from `R_NEW`, with no direct host access, no `R_ALIGN` and no teardown, are the
source's bit stream up to some length, which the bytes taken and the offset give. -/
def Obligations.DeliveredBitsAreTheSourceStream : Prop :=
  ∀ (s t : State) (is : List Instr) (bits : List Bool), s.reader.attached = false →
    (∀ i ∈ is, i.engine = .reader ∧ i ≠ .rAlign ∧ i ≠ .rIntoInner ∧ i ≠ .rDrop) →
    runDelivering (.rNew :: is) s = some (bits, t) →
    ∃ taken : List Byte, s.reader.port.stream = taken ++ t.reader.port.stream ∧
      bits = (streamBits s.params.readerEndian s.reader.port.stream).take bits.length ∧
      bits.length = (if t.reader.off = 0 then 8 * taken.length else 8 * taken.length - (8 - t.reader.off.toNat))

/-- R25: with `r_off = 0` nothing depends on `r_buf`: from two states that differ in it alone, every command answers the
same or waits for the same, moves the same bytes, and ends in states that differ at most in a dead buffer. -/
def Obligations.DeadBufferIsUnobservable : Prop :=
  ∀ (i : Instr) (s : State) (b : Byte), s.reader.off = 0 →
    ∃ t u, exec i s = .next t ∧ exec i { s with reader := { s.reader with buf := b } } = .next u ∧
      (u = t ∨ (t.reader.off = 0 ∧ u = { t with reader := { t.reader with buf := b } }))

/-! ## Writer commands -/

/-- R173: `W_NEW` attaches and initialises a detached writer with the capacity it selects, and is refused on an attached
one. That it takes a released sink back is read from R71 (DEDUCED: log entry 13). -/
def Obligations.NewWriterAttaches : Prop :=
  ∀ (s : State) (len : Nat), len ≤ 65535 →
    encode (.wNew len) = BitVec.ofNat 32 (len <<< 16 ||| 0x11) ∧
    (s.writer.attached = false → ∃ t, exec (.wNew len) s = .next t ∧
      t.writer.cap.toNat = (if len = 0 then 16 else len) ∧
      t = { s with writer := { s.writer with
        attached := true, off := 0, buf := 0, cap := t.writer.cap, released := false,
        rsp := .response { status := .ok } } }) ∧
    (s.writer.attached = true → exec (.wNew len) s = .next
      { s with writer := { s.writer with rsp := .response { status := .sequenceError .alreadyAttached } } })

/-- R174: `W_WRITE_BIT` sets policy index `w_off` to the bit; at offset 7 the byte completes and is written, and a write
that fails changes no register. -/
def Obligations.WriteBitDepositsBit : Prop :=
  ∀ (s : State) (b : Bool), s.writer.attached = true →
    let w := s.writer
    encode (.wWriteBit b) = (if b then 0x00010012 else 0x00000012) ∧
    let byte : Byte := w.buf ||| (if b then 1#8 <<< pos s.params.writerEndian w.off.toNat else 0)
    (w.off ≠ 7 → exec (.wWriteBit b) s = .next
      { s with writer := { w with off := w.off + 1, buf := byte, rsp := .response { status := .ok } } }) ∧
    (w.off = 7 → ∀ a, w.port.answer [byte] = some a → exec (.wWriteBit b) s = .next
      { s with writer :=
        match a with
        | .ack 0 => { w with port := w.port.after [byte] a, rsp := .response { status := .ioError .writeZero } }
        | .ack (_ + 1) => { w with
            off := 0, buf := 0, port := w.port.after [byte] a, rsp := .response { status := .ok } }
        | .err e => { w with port := w.port.after [byte] a, rsp := .response { status := .ioError (.portError e) } } })

/-- R175: `W_WRITE_BITS bits, c` deposits the field at the offset; if the byte completes it is written, the bits beyond
it stay pending, and a write that fails changes no register. A count above 8 is refused before any transfer. -/
def Obligations.WriteBitsDepositsField : Prop :=
  ∀ (s : State) (bits : Byte) (c : Nat), s.writer.attached = true → c ≤ 15 →
    let w := s.writer
    let B := s.params.writerEndian
    let o := w.off.toNat
    let field := place B bits c
    let cur : Byte := w.buf ||| shiftTowardLsb B field o
    encode (.wWriteBits bits c) = BitVec.ofNat 32 (bits.toNat <<< 16 ||| c <<< 8 ||| 0x13) ∧
    (8 < c → exec (.wWriteBits bits c) s = .next
      { s with writer := { w with rsp := .response { status := .programmerError .countGt8 } } }) ∧
    (o + c < 8 → exec (.wWriteBits bits c) s = .next
      { s with writer := { w with off := BitVec.ofNat 3 (o + c), buf := cur, rsp := .response { status := .ok } } }) ∧
    (c ≤ 8 → 8 ≤ o + c → ∀ a, w.port.answer [cur] = some a → exec (.wWriteBits bits c) s = .next
      { s with writer :=
        match a with
        | .ack 0 => { w with port := w.port.after [cur] a, rsp := .response { status := .ioError .writeZero } }
        | .ack (_ + 1) => { w with
            off := BitVec.ofNat 3 (o + c), buf := shiftTowardMsb B field (8 - o), port := w.port.after [cur] a,
            rsp := .response { status := .ok } }
        | .err e => { w with port := w.port.after [cur] a, rsp := .response { status := .ioError (.portError e) } } })

/-- 42_writer.md R175's source sentence: the `count` bits are deposited exactly as a sequence of `count` `write_bit`s
would deposit them. -/
def Obligations.WriteBitsIsWriteBitSequence : Prop :=
  ∀ (s : State) (bits : Byte) (c n : Nat) (ds : List SnkDraw), s.writer.attached = true → 1 ≤ c → c ≤ 8 →
    s.writer.port.draws = .accept (n + 1) :: ds →
    ∃ t, exec (.wWriteBits bits c) s = .next t ∧ t.status .writer = some .ok ∧
      runCommands ((fieldBits s.params.writerEndian bits c).map .wWriteBit) s = some t

/-- R176, R178, R179 and R180: the four writer commands that change nothing but the response. -/
def Obligations.WriterQueriesAnswer : Prop :=
  encode .wIsAligned = 0x00000014 ∧ encode .wGetRef = 0x00000016 ∧ encode .wGetMut = 0x00000017 ∧
  encode .wGetMutUnchecked = 0x00000018 ∧
  ∀ s : State, s.writer.attached = true →
    let answered (p : Response) : State := { s with writer := { s.writer with rsp := .response p } }
    exec .wIsAligned s = .next (answered { status := .ok, result8 := if s.writer.off = 0 then 1 else 0 }) ∧
    exec .wGetRef s = .next (answered { status := .ok, grant := .ref }) ∧
    exec .wGetMutUnchecked s = .next (answered { status := .ok, grant := .mutUnchecked }) ∧
    (s.writer.off = 0 → exec .wGetMut s = .next (answered { status := .ok, grant := .mut })) ∧
    (s.writer.off ≠ 0 → exec .wGetMut s = .next (answered { status := .programmerError .getMutUnaligned }))

/-- R177: `W_ALIGN` does nothing when aligned, and otherwise writes the partial byte; a write that fails changes no
register. -/
def Obligations.AlignWritesPartialByte : Prop :=
  encode .wAlign = 0x00000015 ∧
  ∀ s : State, s.writer.attached = true →
    let w := s.writer
    (w.off = 0 → exec .wAlign s = .next { s with writer := { w with rsp := .response { status := .ok } } }) ∧
    (w.off ≠ 0 → ∀ a, w.port.answer [w.buf] = some a → exec .wAlign s = .next
      { s with writer :=
        match a with
        | .ack 0 => { w with port := w.port.after [w.buf] a, rsp := .response { status := .ioError .writeZero } }
        | .ack (_ + 1) => { w with
            off := 0, buf := 0, port := w.port.after [w.buf] a, rsp := .response { status := .ok } }
        | .err e => { w with port := w.port.after [w.buf] a, rsp := .response { status := .ioError (.portError e) } } })

/-- R181: `W_INTO_INNER` writes the partial byte and hands the sink back; if that write fails, the writer stays attached
and intact and the status is `FLUSH_ON_UNWRAP`. A successful one releases the sink for good (R71; DEDUCED: log entry 13). -/
def Obligations.IntoInnerFlushesAndReleases : Prop :=
  encode .wIntoInner = 0x00000019 ∧
  ∀ s : State, s.writer.attached = true →
    let w := s.writer
    (w.off = 0 → exec .wIntoInner s = .next
      { s with writer := { w with
        attached := false, released := true, rsp := .response { status := .ok, grant := .released } } }) ∧
    (w.off ≠ 0 → ∀ a, w.port.answer [w.buf] = some a → exec .wIntoInner s = .next
      { s with writer :=
        match a with
        | .ack 0 => { w with port := w.port.after [w.buf] a, rsp := .response { status := .flushOnUnwrap .writeZero } }
        | .ack (_ + 1) => { w with
            attached := false, off := 0, buf := 0, port := w.port.after [w.buf] a, released := true,
            rsp := .response { status := .ok, grant := .released } }
        | .err e => { w with
            port := w.port.after [w.buf] a, rsp := .response { status := .flushOnUnwrap (.portError e) } } })

/-- R182: `W_WRITE L` takes its `L` data bytes and makes one offer: the bytes themselves when aligned, otherwise the
first `k` of them shifted, where byte `j` of the offer joins the bits pending before data byte `j` to the head of that
byte; after `Ack(m)` the tail of the last accepted data byte is pending, and an error changes no register. That all `L`
bytes leave the data-in channel, whatever the sink accepts, is read from R87 and R271 (DEDUCED: log entry 22). -/
def Obligations.WriteOffersBytes : Prop :=
  ∀ (s : State) (len : Nat), s.writer.attached = true → len ≤ 65535 → len ≤ s.writer.dataIn.length →
    encode (.wWrite len) = BitVec.ofNat 32 (len <<< 16 ||| 0x1A) ∧
    let w := { s.writer with dataIn := s.writer.dataIn.drop len }
    let B := s.params.writerEndian
    let d := s.writer.dataIn.take len
    let o := w.off.toNat
    let k := match s.params.stagingMode with
      | .bounded => min len w.cap.toNat
      | .perCall => len
    (w.off = 0 → ∀ a, w.port.answer d = some a → exec (.wWrite len) s = .next
      { s with writer :=
        match a with
        | .ack m => { w with port := w.port.after d a, rsp := .response { status := .ok, n := m } }
        | .err e => { w with port := w.port.after d a, rsp := .response { status := .ioError (.portError e) } } }) ∧
    (w.off ≠ 0 → ∃ staged : List Byte, staged.length = k ∧
      (∀ j, j < k → staged.getD j 0 =
        wcombine B (if j = 0 then w.buf else wtail B (d.getD (j - 1) 0) o) (d.getD j 0) o) ∧
      ∀ a, w.port.answer staged = some a → exec (.wWrite len) s = .next
        { s with writer :=
          match a with
          | .ack m => { w with
              buf := if m = 0 then w.buf else wtail B (d.getD (m - 1) 0) o, port := w.port.after staged a,
              rsp := .response { status := .ok, n := m } }
          | .err e => { w with port := w.port.after staged a, rsp := .response { status := .ioError (.portError e) } } })

/-- R183: `W_FLUSH` writes the partial byte, if there is one, and then asks the sink to flush, which it does not after a
failed write; the byte write stands when the flush fails. -/
def Obligations.FlushWritesThenFlushes : Prop :=
  encode .wFlush = 0x0000001B ∧
  ∀ s : State, s.writer.attached = true →
    let w := s.writer
    let flushed (v : Writer) (f : FlushAnswer) : State := { s with writer := { v with
      port := v.port.afterFlush f,
      rsp := .response { status := match f with
        | .ok => .ok
        | .err e => .ioError (.portError e) } } }
    (w.off = 0 → ∀ f, w.port.flushAnswer = some f → exec .wFlush s = .next (flushed w f)) ∧
    (w.off ≠ 0 → ∀ a, w.port.answer [w.buf] = some a →
      match a with
      | .ack 0 => exec .wFlush s = .next { s with writer := { w with
          port := w.port.after [w.buf] a, rsp := .response { status := .ioError .writeZero } } }
      | .ack (_ + 1) => ∀ f, (w.port.after [w.buf] a).flushAnswer = some f →
          exec .wFlush s = .next (flushed { w with off := 0, buf := 0, port := w.port.after [w.buf] a } f)
      | .err e => exec .wFlush s = .next { s with writer := { w with
          port := w.port.after [w.buf] a, rsp := .response { status := .ioError (.portError e) } } })

/-- R184: `W_DROP` writes the partial byte, ignores the answer, detaches, clears the cursor and answers `OK`; on a
detached writer it is a no-op. -/
def Obligations.DropWritesAndDetaches : Prop :=
  encode .wDrop = 0x0000001C ∧
  ∀ s : State,
    let w := s.writer
    (w.attached = false → exec .wDrop s = .next { s with writer := { w with rsp := .response { status := .ok } } }) ∧
    (w.attached = true → w.off = 0 → exec .wDrop s = .next
      { s with writer := { w with attached := false, off := 0, buf := 0, rsp := .response { status := .ok } } }) ∧
    (w.attached = true → w.off ≠ 0 → ∀ a, w.port.answer [w.buf] = some a → exec .wDrop s = .next
      { s with writer := { w with
        attached := false, off := 0, buf := 0, port := w.port.after [w.buf] a, rsp := .response { status := .ok } } })

/-- R189: `W_DROP` makes the same sink transfer as `W_ALIGN` and then detaches: both wait for the same answer, or both
are answered, and they leave the same sink. -/
def Obligations.DropMakesAlignTransfer : Prop :=
  ∀ s : State, s.writer.attached = true →
    ∃ t u, exec .wDrop s = .next t ∧ exec .wAlign s = .next u ∧ t.writer.port = u.writer.port ∧ t.reader = u.reader ∧
      ((t.writer.attached = false ∧ ∃ p q, t.writer.rsp = .response p ∧ u.writer.rsp = .response q) ∨
       ∃ q, t.writer.rsp = .waiting (.command .wDrop) q ∧ u.writer.rsp = .waiting (.command .wAlign) q)

/-- R186: the bytes an answered `W_WRITE` puts into the sink, and the offset and buffer it leaves, are those of as many
8-bit writes of the accepted data bytes, each of them accepted. -/
def Obligations.WriteIsEightBitWrites : Prop :=
  ∀ (s t : State) (len : Nat) (p : Response), s.writer.attached = true → s.writer.PendingOnly s.params.writerEndian →
    len ≤ s.writer.dataIn.length → exec (.wWrite len) s = .next t → t.writer.rsp = .response p → p.status = .ok →
    ∃ u : State,
      writeFields ((s.writer.dataIn.take p.n).map fun d => (d, 8))
        { s with writer := { s.writer with
          port := { s.writer.port with draws := List.replicate p.n (.accept 1) } } } = some u ∧
      u.writer.port.stream = t.writer.port.stream ∧ u.writer.off = t.writer.off ∧ u.writer.buf = t.writer.buf

/-- R54: each writer command makes exactly the sink transactions of the table, one that the port has not answered yet
included, and no reader command makes any; `W_FLUSH` requests the flush after the byte write, unless that failed or has
not been answered. A `W_WRITE` makes its offer once its data bytes have all come. -/
def Obligations.SinkTransferTable : Prop :=
  ∀ (i : Instr) (s t : State), exec i s = .next t →
    let after := t.writer.requested
    let made := s.writer.port.log.map SnkTxn.request ++ snkRequests s.params.stagingMode s.writer i
    (i.engine = .reader → t.writer = s.writer) ∧
    (i.engine = .writer → i ≠ .wFlush → (∀ len, i = .wWrite len → len ≤ s.writer.dataIn.length) → after = made) ∧
    (i = .wFlush → s.writer.attached = false → after = made) ∧
    (i = .wFlush → s.writer.attached = true → s.writer.off = 0 → after = made ++ [.flush]) ∧
    (i = .wFlush → s.writer.attached = true → s.writer.off ≠ 0 →
      (t.writer.off ≠ 0 ∧ after = made) ∨ (t.writer.off = 0 ∧ after = made ++ [.flush]))

/-- R190: in a run from `W_NEW` without `W_DROP` and without direct host access, the sink has received the whole bytes of the bits the writer took from
the host (with the zero bits that padded a partial byte where one was written), and the bits left over are pending. -/
def Obligations.TakenBitsAreTheSinkStream : Prop :=
  ∀ (s t : State) (len : Nat) (is : List Instr) (bits : List Bool), s.writer.attached = false →
    (∀ i ∈ is, i.engine = .writer ∧ i ≠ .wDrop) → runTaking (.wNew len :: is) s = some (bits, t) →
    ∃ out : List Byte, t.writer.port.stream = s.writer.port.stream ++ out ∧
      out.length = bits.length / 8 ∧ t.writer.off.toNat = bits.length % 8 ∧
      streamBits s.params.writerEndian out = bits.take (8 * (bits.length / 8)) ∧
      (byteBits s.params.writerEndian t.writer.buf).take t.writer.off.toNat = bits.drop (8 * (bits.length / 8))

/-- R68: a byte sequence cut into groups of at most 8 bits, written as those groups and read back as the same groups
under the same endianness, gives the sequence in the sink, an aligned writer, and the group values. -/
def Obligations.RoundTripOfBitGroups : Prop :=
  ∀ (S : List Byte) (sizes : List Nat) (B : Endian) (s : State), (∀ c ∈ sizes, c ≤ 8) → sizes.sum = 8 * S.length →
    s.params.writerEndian = B → s.params.readerEndian = B →
    s.writer.attached = true → s.writer.off = 0 → s.writer.buf = 0 → s.writer.port.stream = [] →
    s.writer.port.draws = List.replicate S.length (.accept 1) →
    s.reader.attached = true → s.reader.off = 0 → s.reader.port.stream = S →
    s.reader.port.draws = List.replicate S.length (.deliver 1) →
    (∃ t, writeFields (cutFields B sizes (streamBits B S)) s = some t ∧
      t.writer.port.stream = S ∧ t.writer.off = 0) ∧
    (∃ u, readFields sizes s = some ((cutFields B sizes (streamBits B S)).map Prod.fst, u))

/-! ## Errors -/

/-- R227 on a detached engine: every command but `NEW` and `DROP` is refused with `DETACHED`, and nothing else changes,
but that a `W_WRITE` takes the data bytes framed behind it (30_encoding.md R88; log entry 10). -/
def Obligations.DetachedEngineRefuses : Prop :=
  ∀ (i : Instr) (s : State), s.attached i.engine = false →
    (i.engine = .reader → i ≠ .rNew → i ≠ .rDrop → exec i s = .next
      { s with reader := { s.reader with rsp := .response { status := .sequenceError .detached } } }) ∧
    (i.engine = .writer → (∀ len, i ≠ .wNew len) → (∀ len, i ≠ .wWrite len) → i ≠ .wDrop → exec i s = .next
      { s with writer := { s.writer with rsp := .response { status := .sequenceError .detached } } }) ∧
    (∀ len, i = .wWrite len → len ≤ s.writer.dataIn.length → exec i s = .next
      { s with writer := { s.writer with
        dataIn := s.writer.dataIn.drop len, rsp := .response { status := .sequenceError .detached } } })

/-- R227: a command that has been answered ends with a sequence error exactly where the table says so. -/
def Obligations.SequenceErrorExactly : Prop :=
  ∀ (i : Instr) (s t : State) (p : Response) (c : SequenceCause), exec i s = .next t →
    t.reply i.engine = .response p →
    (p.status = .sequenceError c ↔
      (c = .alreadyAttached ∧ s.attached i.engine = true ∧ (i = .rNew ∨ ∃ len, i = .wNew len)) ∨
      (c = .detached ∧ s.attached i.engine = false ∧
        i ≠ .rNew ∧ i ≠ .rDrop ∧ (∀ len, i ≠ .wNew len) ∧ i ≠ .wDrop))

/-- R223, exhaustively: a command ends with a programmer error exactly on a count above 8 or on `GET_MUT` at a non-zero
offset, in an attached engine (R228). -/
def Obligations.ProgrammerErrorExactly : Prop :=
  ∀ (i : Instr) (s t : State) (c : ProgrammerCause), exec i s = .next t →
    (t.status i.engine = some (.programmerError c) ↔
      s.attached i.engine = true ∧
      ((c = .countGt8 ∧ ((∃ k, i = .rReadBits k ∧ 8 < k) ∨ ∃ b k, i = .wWriteBits b k ∧ 8 < k)) ∨
       (c = .getMutUnaligned ∧ ((i = .rGetMut ∧ s.reader.off ≠ 0) ∨ (i = .wGetMut ∧ s.writer.off ≠ 0)))))

/-- R225: only `W_INTO_INNER` of an attached writer at a non-zero offset raises `FLUSH_ON_UNWRAP`, always with
`PORT_ERROR` or `WRITE_ZERO`, and it then stays attached with its registers unchanged. -/
def Obligations.FlushOnUnwrapOnlyFromIntoInner : Prop :=
  ∀ (i : Instr) (s t : State) (c : IoCause), exec i s = .next t → t.status i.engine = some (.flushOnUnwrap c) →
    i = .wIntoInner ∧ s.writer.attached = true ∧ s.writer.off ≠ 0 ∧
    ((c = .writeZero ∧ t.writer.port.log = s.writer.port.log ++ [.write [s.writer.buf] (.ack 0)]) ∨
     ∃ e, c = .portError e ∧ t.writer.port.log = s.writer.port.log ++ [.write [s.writer.buf] (.err e)]) ∧
    t.writer.attached = true ∧ t.writer.off = s.writer.off ∧ t.writer.buf = s.writer.buf

/-- R229: a command that ends with another status than `OK` leaves every register of its engine as it was, and the stream
at its port, but for `W_FLUSH` whose `SnkFlush` fails after its byte write; `W_DROP` never reports an error. -/
def Obligations.FailedCommandChangesNothing : Prop :=
  ∀ (i : Instr) (s t : State) (st : Status), exec i s = .next t → t.status i.engine = some st → st ≠ .ok →
    (i.engine = .reader →
      t.reader.attached = s.reader.attached ∧ t.reader.off = s.reader.off ∧ t.reader.buf = s.reader.buf ∧
      t.reader.port.stream = s.reader.port.stream ∧ t.writer = s.writer) ∧
    (i.engine = .writer →
      i ≠ .wDrop ∧ t.reader = s.reader ∧ t.writer.attached = s.writer.attached ∧ t.writer.cap = s.writer.cap ∧
      ((t.writer.off = s.writer.off ∧ t.writer.buf = s.writer.buf ∧
          t.writer.port.stream = s.writer.port.stream) ∨
       (i = .wFlush ∧ s.writer.off ≠ 0 ∧ t.writer.off = 0 ∧ t.writer.buf = 0 ∧
          t.writer.port.stream = s.writer.port.stream ++ [s.writer.buf] ∧
          ∃ e, t.writer.port.log.getLast? = some (.flush (.err e)))))

/-- R221: a command ends with `IO_ERROR(PORT_ERROR, e)` exactly if the last transaction it made was answered `Err(e)`,
unless it is `W_DROP`, which hides the error, or `W_INTO_INNER`, which raises another status. -/
def Obligations.PortErrorsPassThrough : Prop :=
  ∀ (i : Instr) (s t : State) (e : ErrVal), exec i s = .next t →
    (t.status i.engine = some (.ioError (.portError e)) ↔
      (i.engine = .reader ∧ t.reader.port.log ≠ s.reader.port.log ∧
        ∃ len, t.reader.port.log.getLast? = some ⟨len, .err e⟩) ∨
      (i.engine = .writer ∧ i ≠ .wDrop ∧ i ≠ .wIntoInner ∧ t.writer.port.log ≠ s.writer.port.log ∧
        ((∃ xs, t.writer.port.log.getLast? = some (.write xs (.err e))) ∨
         t.writer.port.log.getLast? = some (.flush (.err e)))))

/-- R236 and R243: every command goes on in every state, and waits exactly while its next request has not been answered:
a reader command for its `SrcRead`, a writer command for its `SnkWrite`, `W_FLUSH` for its `SnkFlush` too, and `W_WRITE`
for its data bytes. While it waits, it is outstanding with that request, and no register has changed, but that `W_FLUSH`
has cleared its cursor once its byte write is done (R183; DEDUCED: log entry 25). -/
def Obligations.CommandsWaitExactlyForInput : Prop :=
  ∀ (i : Instr) (s : State), ∃ t, exec i s = .next t ∧
    (i.engine = .reader →
      let r := s.reader
      match srcRequests r i with
      | [] => t.reader.rsp.isWaiting = false
      | len :: _ =>
        if r.port.answer len = none then
          t = { s with reader := { r with port := r.port.silent, rsp := .waiting (.command i) (.srcRead len) } }
        else t.reader.rsp.isWaiting = false) ∧
    (i.engine = .writer →
      let w := s.writer
      let onFlush (v : Writer) : State :=
        { s with writer := { v with port := v.port.silent, rsp := .waiting (.command .wFlush) .snkFlush } }
      (∀ len, i = .wWrite len → w.dataIn.length < len →
        t = { s with writer := { w with rsp := .waiting (.command i) (.dataIn len) } }) ∧
      ((∀ len, i = .wWrite len → len ≤ w.dataIn.length) →
        match w.firstOffer s.params i with
        | some xs =>
          (w.port.answer xs = none →
            t = { s with writer := { w with
              port := w.port.silent, rsp := .waiting (.command i) (.snkWrite xs) } }) ∧
          (w.port.answer xs ≠ none → i ≠ .wFlush → t.writer.rsp.isWaiting = false)
        | none => i ≠ .wFlush → t.writer.rsp.isWaiting = false) ∧
      (i = .wFlush → w.attached = false → t.writer.rsp.isWaiting = false) ∧
      (i = .wFlush → w.attached = true → w.off = 0 →
        if w.port.flushAnswer = none then t = onFlush w else t.writer.rsp.isWaiting = false) ∧
      (i = .wFlush → w.attached = true → w.off ≠ 0 → ∀ a, w.port.answer [w.buf] = some a →
        let p := w.port.after [w.buf] a
        if a = .ack 1 ∧ p.flushAnswer = none then t = onFlush { w with off := 0, buf := 0, port := p }
        else t.writer.rsp.isWaiting = false))

/-! ## Responses -/

/-- R90: where the fields of a response stand in its word, for a byte count that fits sixteen bits. With the side channels
of R93 the word shows the host all that the model holds of a response: two that are observed alike are equal (R241). -/
def Obligations.ResponseWordFields : Prop :=
  ∀ p : Response, p.n ≤ 65535 →
    p.word.extractLsb' 0 4 = p.status.code ∧ p.word.extractLsb' 4 4 = p.status.detail ∧
    p.word.extractLsb' 8 8 = p.result8 ∧ (p.word.extractLsb' 16 16).toNat = p.n ∧
    p.observed = { word := p.word, err := p.status.err, dataOut := p.dataOut, grant := p.grant } ∧
    ∀ q : Response, q.n ≤ 65535 → q.observed = p.observed → q = p

/-- R91 and R92: the `STATUS` and `DETAIL` of each status and cause, in the order of the table; and ERR is valid exactly
when the detail is `PORT_ERROR` of an I/O status, and carries its error value (R93). -/
def Obligations.StatusDetailTable : Prop :=
  let coded (st : Status) (code detail : Nat) : Prop := st.code.toNat = code ∧ st.detail.toNat = detail
  coded .ok 0 0 ∧ coded .illegalCommand 4 0 ∧
  (∀ e, coded (.ioError (.portError e)) 1 1 ∧ coded (.flushOnUnwrap (.portError e)) 3 1) ∧
  coded (.ioError .unexpectedEof) 1 2 ∧ coded (.ioError .writeZero) 1 3 ∧ coded (.flushOnUnwrap .writeZero) 3 3 ∧
  coded (.programmerError .countGt8) 2 1 ∧ coded (.programmerError .getMutUnaligned) 2 2 ∧
  coded (.sequenceError .detached) 5 1 ∧ coded (.sequenceError .alreadyAttached) 5 2 ∧
  (∀ (st : Status) (e : ErrVal), st.err = some e ↔ st = .ioError (.portError e) ∨ st = .flushOnUnwrap (.portError e))

/-! ## Isolation, host access and invariants -/

/-- R240: a reader command neither changes nor reads anything of the writer, and a writer command nothing of the reader:
the parameters, the host's moves and view and the other engine stay, and with another such engine, be it waiting or not,
the command does the same. -/
def Obligations.EnginesShareNothing : Prop :=
  ∀ (i : Instr) (s t : State), exec i s = .next t →
    t.params = s.params ∧ t.host = s.host ∧ t.view = s.view ∧
    (i.engine = .reader → t.writer = s.writer ∧
      ∀ (w : Writer), exec i { s with writer := w } = .next { t with writer := w }) ∧
    (i.engine = .writer → t.reader = s.reader ∧
      ∀ (r : Reader), exec i { s with reader := r } = .next { t with reader := r })

/-- R70 to R72 and R263: a host's direct move on a stream is made exactly in a window that admits it, or once the stream
has been released, and changes that stream alone; otherwise the machine stays as it is (log entry 12). A released stream
is the host's for good: of all commands only `NEW`, and of all moves only the word of a `NEW` and a rewiring, end that.
Which grants admit a move, and that wiring needs a detached engine, is read from R71 (log entry 13). -/
def Obligations.DirectAccessFollowsTheGrant : Prop :=
  (∀ (s : State) (rest : List HostMove) (n : Nat) (xs : List Byte) (sd : List SrcDraw) (kd : List SnkDraw),
    let made (may : Prop) (t : State) : Prop :=
      (may → step s = .next { t with host := rest }) ∧ (¬ may → step s = .next { s with host := rest })
    let readerOpen (gs : List Grant) : Prop := s.reader.released = true ∨ ∃ p, s.reader.rsp = .response p ∧ p.grant ∈ gs
    let writerOpen (gs : List Grant) : Prop := s.writer.released = true ∨ ∃ p, s.writer.rsp = .response p ∧ p.grant ∈ gs
    let onSource (st : List Byte) : State :=
      { s with reader := { s.reader with port := { s.reader.port with stream := st } } }
    let onSink (st : List Byte) : State :=
      { s with writer := { s.writer with port := { s.writer.port with stream := st } } }
    (s.host = .consumeSource n :: rest →
      made (readerOpen [.mut, .mutUnchecked]) (onSource (s.reader.port.stream.drop n))) ∧
    (s.host = .appendSink xs :: rest → made (writerOpen [.mut, .mutUnchecked]) (onSink (s.writer.port.stream ++ xs))) ∧
    (s.host = .flushSink :: rest → made (writerOpen [.mut, .mutUnchecked]) s) ∧
    (s.host = .inspectSource :: rest →
      made (readerOpen [.ref, .mut, .mutUnchecked]) { s with view := some s.reader.port.stream }) ∧
    (s.host = .inspectSink :: rest →
      made (writerOpen [.ref, .mut, .mutUnchecked]) { s with view := some s.writer.port.stream }) ∧
    (s.host = .wireSource xs sd :: rest → made (s.reader.attached = false)
      { s with reader := { s.reader with
        port := { s.reader.port with stream := xs, draws := sd }, released := false } }) ∧
    (s.host = .wireSink xs kd :: rest → made (s.writer.attached = false)
      { s with writer := { s.writer with
        port := { s.writer.port with stream := xs, draws := kd }, released := false } })) ∧
  (∀ (i : Instr) (s t : State), exec i s = .next t →
    (s.reader.released = true → i ≠ .rNew → t.reader.released = true) ∧
    (s.writer.released = true → (∀ len, i ≠ .wNew len) → t.writer.released = true)) ∧
  (∀ s t : State, s.Inv → step s = .next t →
    (s.reader.released = true → (∀ w rest, s.host = .readerCommand w :: rest → decode .reader w ≠ .ok .rNew) →
      (∀ xs ds rest, s.host ≠ .wireSource xs ds :: rest) → t.reader.released = true) ∧
    (s.writer.released = true →
      (∀ w xs rest len, s.host = .writerCommand w xs :: rest → decode .writer w ≠ .ok (.wNew len)) →
      (∀ xs ds rest, s.host ≠ .wireSink xs ds :: rest) → t.writer.released = true))

/-- The reset state, and every power-on state, meets the invariant. -/
def Obligations.PowerOnMeetsInv : Prop :=
  State.reset.Inv ∧ ∀ p : Params, (State.powerOn p).Inv

/-- Every step keeps the invariant, from every state that meets it: only pending bits are set in `w_buf` (R35, R185), the
capacity is positive (R34), a detached engine's cursor is clear, the responses are legal (R90 to R93), a released stream
is a detached engine's (R71), an outstanding command has a word and waits for a request it makes (R80, R236), and the
data-in channel holds
bytes of the outstanding frame and no others (R87). -/
def Obligations.StepKeepsInv : Prop :=
  ∀ s t : State, s.Inv → step s = .next t → t.Inv

/-- R185 alone, command by command: the writer's invariant is preserved. -/
def Obligations.CommandsKeepPendingOnly : Prop :=
  ∀ (i : Instr) (s t : State), s.writer.PendingOnly s.params.writerEndian → exec i s = .next t →
    t.writer.PendingOnly t.params.writerEndian

/-! ## Waiting -/

/-- R63 and R236: a waiting engine stays as it is, with its command outstanding, and accepts no other: of all moves only
the port's answer, the missing data bytes and power-on reset reach it. A detached writer waits only for the bytes of a
frame that it will refuse, and the sink at its port may meanwhile be another. -/
def Obligations.WaitingEngineStaysWaiting : Prop :=
  ∀ s t : State, s.Inv → step s = .next t →
    (s.reader.rsp.isWaiting = true → (∀ d rest, s.host ≠ .sourceAnswers d :: rest) →
      (∀ rest, s.host ≠ .powerOnReset :: rest) → t.reader = s.reader) ∧
    (s.writer.rsp.isWaiting = true → (∀ d rest, s.host ≠ .sinkAnswers d :: rest) →
      (∀ xs rest, s.host ≠ .writerData xs :: rest) → (∀ rest, s.host ≠ .powerOnReset :: rest) →
      t.writer = { s.writer with port := t.writer.port, released := t.writer.released } ∧
      (s.writer.attached = true → t.writer = s.writer))

/-- R236: an answer that comes late ends the command as a prompt one would have: the same response, registers, streams
and records. For the `SnkFlush` of a `W_FLUSH` the byte before it was accepted. `drawn`, the model's own count of the
environment's decisions, is one more for the silence (log entry 2). -/
def Obligations.LateAnswerCompletesCommand : Prop :=
  (∀ (i : Instr) (s t : State) (d : SrcDraw) (rest : List HostMove), i.engine = .reader →
    exec i s = .next t → t.reader.rsp.isWaiting = true →
    step { t with host := .sourceAnswers d :: rest } = exec i { s with
      host := rest,
      reader := { s.reader with port := { s.reader.port with
        draws := d :: s.reader.port.draws.tail, drawn := s.reader.port.drawn + 1 } } }) ∧
  (∀ (i : Instr) (s t : State) (q : Request) (d : SnkDraw) (rest : List HostMove), i.engine = .writer →
    exec i s = .next t → t.writer.rsp = .waiting (.command i) q → (∀ len, q ≠ .dataIn len) →
    let ds := s.writer.port.draws
    step { t with host := .sinkAnswers d :: rest } = exec i { s with
      host := rest,
      writer := { s.writer with port := { s.writer.port with
        draws := if q = .snkFlush ∧ s.writer.off ≠ 0 then .accept 1 :: d :: ds.tail.tail else d :: ds.tail,
        drawn := s.writer.port.drawn + 1 } } })

/-- R87 and R88: it does not matter in how many parts the bytes framed behind a writer's word come: until they have all
come the writer waits, and then it does what it would have done at once. More bytes than the word frames are not sent:
such a move is not made (R71; log entry 12). -/
def Obligations.FrameMayComeInParts : Prop :=
  (∀ (s : State) (w : Word) (xs ys : List Byte) (rest : List HostMove),
    s.writer.rsp.isWaiting = false → s.writer.dataIn = [] →
    xs.length < frameLength w → xs.length + ys.length ≤ frameLength w →
    ∃ t, step { s with host := .writerCommand w xs :: .writerData ys :: rest } = .next t ∧
      t.writer = { s.writer with dataIn := xs, rsp := .waiting (writerJob w) (.dataIn (frameLength w)) } ∧
      step t = step { s with host := .writerCommand w (xs ++ ys) :: rest }) ∧
  (∀ (s : State) (w : Word) (xs : List Byte) (rest : List HostMove), frameLength w < xs.length →
    s.host = .writerCommand w xs :: rest → step s = .next { s with host := rest }) ∧
  (∀ (s : State) (j : Job) (len : Nat) (xs : List Byte) (rest : List HostMove),
    s.writer.rsp = .waiting j (.dataIn len) → len < s.writer.dataIn.length + xs.length →
    s.host = .writerData xs :: rest → step s = .next { s with host := rest })
end

