-- ==== Sys2Proof/Laws/State.lean ====
section
/-! SUPPORT. Each named update, field by field: true by definition, so that no later proof unfolds a record update. -/

namespace Sys2Proof.Machine

/-! ## Reader -/

@[simp] theorem Reader.setCursor_attached (r : Reader) (o : Offset) (b : Byte) :
    (r.setCursor o b).attached = r.attached := rfl
@[simp] theorem Reader.setCursor_off (r : Reader) (o : Offset) (b : Byte) : (r.setCursor o b).off = o := rfl
@[simp] theorem Reader.setCursor_buf (r : Reader) (o : Offset) (b : Byte) : (r.setCursor o b).buf = b := rfl
@[simp] theorem Reader.setCursor_port (r : Reader) (o : Offset) (b : Byte) : (r.setCursor o b).port = r.port := rfl
@[simp] theorem Reader.setCursor_released (r : Reader) (o : Offset) (b : Byte) :
    (r.setCursor o b).released = r.released := rfl
@[simp] theorem Reader.setCursor_rsp (r : Reader) (o : Offset) (b : Byte) : (r.setCursor o b).rsp = r.rsp := rfl
@[simp] theorem Reader.setAttached_attached (r : Reader) (a : Bool) : (r.setAttached a).attached = a := rfl
@[simp] theorem Reader.setAttached_off (r : Reader) (a : Bool) : (r.setAttached a).off = r.off := rfl
@[simp] theorem Reader.setAttached_buf (r : Reader) (a : Bool) : (r.setAttached a).buf = r.buf := rfl
@[simp] theorem Reader.setAttached_port (r : Reader) (a : Bool) : (r.setAttached a).port = r.port := rfl
@[simp] theorem Reader.setAttached_released (r : Reader) (a : Bool) : (r.setAttached a).released = r.released := rfl
@[simp] theorem Reader.setAttached_rsp (r : Reader) (a : Bool) : (r.setAttached a).rsp = r.rsp := rfl
@[simp] theorem Reader.setPort_attached (r : Reader) (p : SrcPort) : (r.setPort p).attached = r.attached := rfl
@[simp] theorem Reader.setPort_off (r : Reader) (p : SrcPort) : (r.setPort p).off = r.off := rfl
@[simp] theorem Reader.setPort_buf (r : Reader) (p : SrcPort) : (r.setPort p).buf = r.buf := rfl
@[simp] theorem Reader.setPort_port (r : Reader) (p : SrcPort) : (r.setPort p).port = p := rfl
@[simp] theorem Reader.setPort_released (r : Reader) (p : SrcPort) : (r.setPort p).released = r.released := rfl
@[simp] theorem Reader.setPort_rsp (r : Reader) (p : SrcPort) : (r.setPort p).rsp = r.rsp := rfl
@[simp] theorem Reader.setReleased_attached (r : Reader) (b : Bool) : (r.setReleased b).attached = r.attached := rfl
@[simp] theorem Reader.setReleased_off (r : Reader) (b : Bool) : (r.setReleased b).off = r.off := rfl
@[simp] theorem Reader.setReleased_buf (r : Reader) (b : Bool) : (r.setReleased b).buf = r.buf := rfl
@[simp] theorem Reader.setReleased_port (r : Reader) (b : Bool) : (r.setReleased b).port = r.port := rfl
@[simp] theorem Reader.setReleased_released (r : Reader) (b : Bool) : (r.setReleased b).released = b := rfl
@[simp] theorem Reader.setReleased_rsp (r : Reader) (b : Bool) : (r.setReleased b).rsp = r.rsp := rfl
@[simp] theorem Reader.respond_attached (r : Reader) (p : Response) : (r.respond p).attached = r.attached := rfl
@[simp] theorem Reader.respond_off (r : Reader) (p : Response) : (r.respond p).off = r.off := rfl
@[simp] theorem Reader.respond_buf (r : Reader) (p : Response) : (r.respond p).buf = r.buf := rfl
@[simp] theorem Reader.respond_port (r : Reader) (p : Response) : (r.respond p).port = r.port := rfl
@[simp] theorem Reader.respond_released (r : Reader) (p : Response) : (r.respond p).released = r.released := rfl
@[simp] theorem Reader.respond_rsp (r : Reader) (p : Response) : (r.respond p).rsp = .response p := rfl
@[simp] theorem Reader.await_attached (r : Reader) (j : Job) (q : Request) : (r.await j q).attached = r.attached := rfl
@[simp] theorem Reader.await_off (r : Reader) (j : Job) (q : Request) : (r.await j q).off = r.off := rfl
@[simp] theorem Reader.await_buf (r : Reader) (j : Job) (q : Request) : (r.await j q).buf = r.buf := rfl
@[simp] theorem Reader.await_port (r : Reader) (j : Job) (q : Request) : (r.await j q).port = r.port := rfl
@[simp] theorem Reader.await_released (r : Reader) (j : Job) (q : Request) : (r.await j q).released = r.released := rfl
@[simp] theorem Reader.await_rsp (r : Reader) (j : Job) (q : Request) : (r.await j q).rsp = .waiting j q := rfl
@[simp] theorem Reader.raise_attached (r : Reader) (st : Status) : (r.raise st).attached = r.attached := rfl
@[simp] theorem Reader.raise_off (r : Reader) (st : Status) : (r.raise st).off = r.off := rfl
@[simp] theorem Reader.raise_buf (r : Reader) (st : Status) : (r.raise st).buf = r.buf := rfl
@[simp] theorem Reader.raise_port (r : Reader) (st : Status) : (r.raise st).port = r.port := rfl
@[simp] theorem Reader.raise_released (r : Reader) (st : Status) : (r.raise st).released = r.released := rfl
@[simp] theorem Reader.raise_rsp (r : Reader) (st : Status) : (r.raise st).rsp = .response (.failure st) := rfl
@[simp] theorem Reader.finishRead_attached (r : Reader) (o : Offset) (b : Byte) (v : Byte) :
    (r.finishRead o b v).attached = r.attached := rfl
@[simp] theorem Reader.finishRead_off (r : Reader) (o : Offset) (b : Byte) (v : Byte) :
    (r.finishRead o b v).off = o := rfl
@[simp] theorem Reader.finishRead_buf (r : Reader) (o : Offset) (b : Byte) (v : Byte) :
    (r.finishRead o b v).buf = b := rfl
@[simp] theorem Reader.finishRead_port (r : Reader) (o : Offset) (b : Byte) (v : Byte) :
    (r.finishRead o b v).port = r.port := rfl
@[simp] theorem Reader.finishRead_released (r : Reader) (o : Offset) (b : Byte) (v : Byte) :
    (r.finishRead o b v).released = r.released := rfl
@[simp] theorem Reader.finishRead_rsp (r : Reader) (o : Offset) (b : Byte) (v : Byte) :
    (r.finishRead o b v).rsp = .response (.value v) := rfl
@[simp] theorem Reader.powerOn_attached (r : Reader) : (r.powerOn).attached = false := rfl
@[simp] theorem Reader.powerOn_off (r : Reader) : (r.powerOn).off = 0 := rfl
@[simp] theorem Reader.powerOn_buf (r : Reader) : (r.powerOn).buf = 0 := rfl
@[simp] theorem Reader.powerOn_port (r : Reader) : (r.powerOn).port = r.port := rfl
@[simp] theorem Reader.powerOn_released (r : Reader) : (r.powerOn).released = r.released := rfl
@[simp] theorem Reader.powerOn_rsp (r : Reader) : (r.powerOn).rsp = .noCommand := rfl

/-! ## Writer -/

@[simp] theorem Writer.setCursor_attached (w : Writer) (o : Offset) (b : Byte) :
    (w.setCursor o b).attached = w.attached := rfl
@[simp] theorem Writer.setCursor_off (w : Writer) (o : Offset) (b : Byte) : (w.setCursor o b).off = o := rfl
@[simp] theorem Writer.setCursor_buf (w : Writer) (o : Offset) (b : Byte) : (w.setCursor o b).buf = b := rfl
@[simp] theorem Writer.setCursor_cap (w : Writer) (o : Offset) (b : Byte) : (w.setCursor o b).cap = w.cap := rfl
@[simp] theorem Writer.setCursor_port (w : Writer) (o : Offset) (b : Byte) : (w.setCursor o b).port = w.port := rfl
@[simp] theorem Writer.setCursor_dataIn (w : Writer) (o : Offset) (b : Byte) :
    (w.setCursor o b).dataIn = w.dataIn := rfl
@[simp] theorem Writer.setCursor_released (w : Writer) (o : Offset) (b : Byte) :
    (w.setCursor o b).released = w.released := rfl
@[simp] theorem Writer.setCursor_rsp (w : Writer) (o : Offset) (b : Byte) : (w.setCursor o b).rsp = w.rsp := rfl
@[simp] theorem Writer.setAttached_attached (w : Writer) (a : Bool) : (w.setAttached a).attached = a := rfl
@[simp] theorem Writer.setAttached_off (w : Writer) (a : Bool) : (w.setAttached a).off = w.off := rfl
@[simp] theorem Writer.setAttached_buf (w : Writer) (a : Bool) : (w.setAttached a).buf = w.buf := rfl
@[simp] theorem Writer.setAttached_cap (w : Writer) (a : Bool) : (w.setAttached a).cap = w.cap := rfl
@[simp] theorem Writer.setAttached_port (w : Writer) (a : Bool) : (w.setAttached a).port = w.port := rfl
@[simp] theorem Writer.setAttached_dataIn (w : Writer) (a : Bool) : (w.setAttached a).dataIn = w.dataIn := rfl
@[simp] theorem Writer.setAttached_released (w : Writer) (a : Bool) : (w.setAttached a).released = w.released := rfl
@[simp] theorem Writer.setAttached_rsp (w : Writer) (a : Bool) : (w.setAttached a).rsp = w.rsp := rfl
@[simp] theorem Writer.setCap_attached (w : Writer) (c : Half) : (w.setCap c).attached = w.attached := rfl
@[simp] theorem Writer.setCap_off (w : Writer) (c : Half) : (w.setCap c).off = w.off := rfl
@[simp] theorem Writer.setCap_buf (w : Writer) (c : Half) : (w.setCap c).buf = w.buf := rfl
@[simp] theorem Writer.setCap_cap (w : Writer) (c : Half) : (w.setCap c).cap = c := rfl
@[simp] theorem Writer.setCap_port (w : Writer) (c : Half) : (w.setCap c).port = w.port := rfl
@[simp] theorem Writer.setCap_dataIn (w : Writer) (c : Half) : (w.setCap c).dataIn = w.dataIn := rfl
@[simp] theorem Writer.setCap_released (w : Writer) (c : Half) : (w.setCap c).released = w.released := rfl
@[simp] theorem Writer.setCap_rsp (w : Writer) (c : Half) : (w.setCap c).rsp = w.rsp := rfl
@[simp] theorem Writer.setPort_attached (w : Writer) (p : SnkPort) : (w.setPort p).attached = w.attached := rfl
@[simp] theorem Writer.setPort_off (w : Writer) (p : SnkPort) : (w.setPort p).off = w.off := rfl
@[simp] theorem Writer.setPort_buf (w : Writer) (p : SnkPort) : (w.setPort p).buf = w.buf := rfl
@[simp] theorem Writer.setPort_cap (w : Writer) (p : SnkPort) : (w.setPort p).cap = w.cap := rfl
@[simp] theorem Writer.setPort_port (w : Writer) (p : SnkPort) : (w.setPort p).port = p := rfl
@[simp] theorem Writer.setPort_dataIn (w : Writer) (p : SnkPort) : (w.setPort p).dataIn = w.dataIn := rfl
@[simp] theorem Writer.setPort_released (w : Writer) (p : SnkPort) : (w.setPort p).released = w.released := rfl
@[simp] theorem Writer.setPort_rsp (w : Writer) (p : SnkPort) : (w.setPort p).rsp = w.rsp := rfl
@[simp] theorem Writer.setDataIn_attached (w : Writer) (xs : List Byte) : (w.setDataIn xs).attached = w.attached := rfl
@[simp] theorem Writer.setDataIn_off (w : Writer) (xs : List Byte) : (w.setDataIn xs).off = w.off := rfl
@[simp] theorem Writer.setDataIn_buf (w : Writer) (xs : List Byte) : (w.setDataIn xs).buf = w.buf := rfl
@[simp] theorem Writer.setDataIn_cap (w : Writer) (xs : List Byte) : (w.setDataIn xs).cap = w.cap := rfl
@[simp] theorem Writer.setDataIn_port (w : Writer) (xs : List Byte) : (w.setDataIn xs).port = w.port := rfl
@[simp] theorem Writer.setDataIn_dataIn (w : Writer) (xs : List Byte) : (w.setDataIn xs).dataIn = xs := rfl
@[simp] theorem Writer.setDataIn_released (w : Writer) (xs : List Byte) : (w.setDataIn xs).released = w.released := rfl
@[simp] theorem Writer.setDataIn_rsp (w : Writer) (xs : List Byte) : (w.setDataIn xs).rsp = w.rsp := rfl
@[simp] theorem Writer.setReleased_attached (w : Writer) (b : Bool) : (w.setReleased b).attached = w.attached := rfl
@[simp] theorem Writer.setReleased_off (w : Writer) (b : Bool) : (w.setReleased b).off = w.off := rfl
@[simp] theorem Writer.setReleased_buf (w : Writer) (b : Bool) : (w.setReleased b).buf = w.buf := rfl
@[simp] theorem Writer.setReleased_cap (w : Writer) (b : Bool) : (w.setReleased b).cap = w.cap := rfl
@[simp] theorem Writer.setReleased_port (w : Writer) (b : Bool) : (w.setReleased b).port = w.port := rfl
@[simp] theorem Writer.setReleased_dataIn (w : Writer) (b : Bool) : (w.setReleased b).dataIn = w.dataIn := rfl
@[simp] theorem Writer.setReleased_released (w : Writer) (b : Bool) : (w.setReleased b).released = b := rfl
@[simp] theorem Writer.setReleased_rsp (w : Writer) (b : Bool) : (w.setReleased b).rsp = w.rsp := rfl
@[simp] theorem Writer.respond_attached (w : Writer) (p : Response) : (w.respond p).attached = w.attached := rfl
@[simp] theorem Writer.respond_off (w : Writer) (p : Response) : (w.respond p).off = w.off := rfl
@[simp] theorem Writer.respond_buf (w : Writer) (p : Response) : (w.respond p).buf = w.buf := rfl
@[simp] theorem Writer.respond_cap (w : Writer) (p : Response) : (w.respond p).cap = w.cap := rfl
@[simp] theorem Writer.respond_port (w : Writer) (p : Response) : (w.respond p).port = w.port := rfl
@[simp] theorem Writer.respond_dataIn (w : Writer) (p : Response) : (w.respond p).dataIn = w.dataIn := rfl
@[simp] theorem Writer.respond_released (w : Writer) (p : Response) : (w.respond p).released = w.released := rfl
@[simp] theorem Writer.respond_rsp (w : Writer) (p : Response) : (w.respond p).rsp = .response p := rfl
@[simp] theorem Writer.await_attached (w : Writer) (j : Job) (q : Request) : (w.await j q).attached = w.attached := rfl
@[simp] theorem Writer.await_off (w : Writer) (j : Job) (q : Request) : (w.await j q).off = w.off := rfl
@[simp] theorem Writer.await_buf (w : Writer) (j : Job) (q : Request) : (w.await j q).buf = w.buf := rfl
@[simp] theorem Writer.await_cap (w : Writer) (j : Job) (q : Request) : (w.await j q).cap = w.cap := rfl
@[simp] theorem Writer.await_port (w : Writer) (j : Job) (q : Request) : (w.await j q).port = w.port := rfl
@[simp] theorem Writer.await_dataIn (w : Writer) (j : Job) (q : Request) : (w.await j q).dataIn = w.dataIn := rfl
@[simp] theorem Writer.await_released (w : Writer) (j : Job) (q : Request) : (w.await j q).released = w.released := rfl
@[simp] theorem Writer.await_rsp (w : Writer) (j : Job) (q : Request) : (w.await j q).rsp = .waiting j q := rfl
@[simp] theorem Writer.raise_attached (w : Writer) (st : Status) : (w.raise st).attached = w.attached := rfl
@[simp] theorem Writer.raise_off (w : Writer) (st : Status) : (w.raise st).off = w.off := rfl
@[simp] theorem Writer.raise_buf (w : Writer) (st : Status) : (w.raise st).buf = w.buf := rfl
@[simp] theorem Writer.raise_cap (w : Writer) (st : Status) : (w.raise st).cap = w.cap := rfl
@[simp] theorem Writer.raise_port (w : Writer) (st : Status) : (w.raise st).port = w.port := rfl
@[simp] theorem Writer.raise_dataIn (w : Writer) (st : Status) : (w.raise st).dataIn = w.dataIn := rfl
@[simp] theorem Writer.raise_released (w : Writer) (st : Status) : (w.raise st).released = w.released := rfl
@[simp] theorem Writer.raise_rsp (w : Writer) (st : Status) : (w.raise st).rsp = .response (.failure st) := rfl
@[simp] theorem Writer.powerOn_attached (w : Writer) : (w.powerOn).attached = false := rfl
@[simp] theorem Writer.powerOn_off (w : Writer) : (w.powerOn).off = 0 := rfl
@[simp] theorem Writer.powerOn_buf (w : Writer) : (w.powerOn).buf = 0 := rfl
@[simp] theorem Writer.powerOn_cap (w : Writer) : (w.powerOn).cap = BitVec.ofNat 16 Config.defaultCapacity := rfl
@[simp] theorem Writer.powerOn_port (w : Writer) : (w.powerOn).port = w.port := rfl
@[simp] theorem Writer.powerOn_dataIn (w : Writer) : (w.powerOn).dataIn = [] := rfl
@[simp] theorem Writer.powerOn_released (w : Writer) : (w.powerOn).released = w.released := rfl
@[simp] theorem Writer.powerOn_rsp (w : Writer) : (w.powerOn).rsp = .noCommand := rfl

/-! ## State -/

@[simp] theorem State.setReader_params (s : State) (r : Reader) : (s.setReader r).params = s.params := rfl
@[simp] theorem State.setReader_reader (s : State) (r : Reader) : (s.setReader r).reader = r := rfl
@[simp] theorem State.setReader_writer (s : State) (r : Reader) : (s.setReader r).writer = s.writer := rfl
@[simp] theorem State.setReader_host (s : State) (r : Reader) : (s.setReader r).host = s.host := rfl
@[simp] theorem State.setReader_view (s : State) (r : Reader) : (s.setReader r).view = s.view := rfl
@[simp] theorem State.setWriter_params (s : State) (w : Writer) : (s.setWriter w).params = s.params := rfl
@[simp] theorem State.setWriter_reader (s : State) (w : Writer) : (s.setWriter w).reader = s.reader := rfl
@[simp] theorem State.setWriter_writer (s : State) (w : Writer) : (s.setWriter w).writer = w := rfl
@[simp] theorem State.setWriter_host (s : State) (w : Writer) : (s.setWriter w).host = s.host := rfl
@[simp] theorem State.setWriter_view (s : State) (w : Writer) : (s.setWriter w).view = s.view := rfl
@[simp] theorem State.setHost_params (s : State) (ms : List HostMove) : (s.setHost ms).params = s.params := rfl
@[simp] theorem State.setHost_reader (s : State) (ms : List HostMove) : (s.setHost ms).reader = s.reader := rfl
@[simp] theorem State.setHost_writer (s : State) (ms : List HostMove) : (s.setHost ms).writer = s.writer := rfl
@[simp] theorem State.setHost_host (s : State) (ms : List HostMove) : (s.setHost ms).host = ms := rfl
@[simp] theorem State.setHost_view (s : State) (ms : List HostMove) : (s.setHost ms).view = s.view := rfl
@[simp] theorem State.setView_params (s : State) (xs : List Byte) : (s.setView xs).params = s.params := rfl
@[simp] theorem State.setView_reader (s : State) (xs : List Byte) : (s.setView xs).reader = s.reader := rfl
@[simp] theorem State.setView_writer (s : State) (xs : List Byte) : (s.setView xs).writer = s.writer := rfl
@[simp] theorem State.setView_host (s : State) (xs : List Byte) : (s.setView xs).host = s.host := rfl
@[simp] theorem State.setView_view (s : State) (xs : List Byte) : (s.setView xs).view = some xs := rfl
@[simp] theorem State.sendData_params (s : State) (xs : List Byte) : (s.sendData xs).params = s.params := rfl
@[simp] theorem State.sendData_reader (s : State) (xs : List Byte) : (s.sendData xs).reader = s.reader := rfl
@[simp] theorem State.sendData_writer (s : State) (xs : List Byte) :
    (s.sendData xs).writer = s.writer.setDataIn (s.writer.dataIn ++ xs) := rfl
@[simp] theorem State.sendData_host (s : State) (xs : List Byte) : (s.sendData xs).host = s.host := rfl
@[simp] theorem State.sendData_view (s : State) (xs : List Byte) : (s.sendData xs).view = s.view := rfl

/-! ## Ports -/

@[simp] theorem SrcPort.after_draws (p : SrcPort) (len : Nat) (a : SrcAnswer) :
    (p.after len a).draws = p.draws.tail := rfl
@[simp] theorem SrcPort.after_drawn (p : SrcPort) (len : Nat) (a : SrcAnswer) :
    (p.after len a).drawn = p.drawn + 1 := rfl
@[simp] theorem SrcPort.after_log (p : SrcPort) (len : Nat) (a : SrcAnswer) :
    (p.after len a).log = p.log ++ [⟨len, a⟩] := rfl
@[simp] theorem SrcPort.silent_stream (p : SrcPort) : (p.silent).stream = p.stream := rfl
@[simp] theorem SrcPort.silent_draws (p : SrcPort) : (p.silent).draws = p.draws.tail := rfl
@[simp] theorem SrcPort.silent_drawn (p : SrcPort) : (p.silent).drawn = p.drawn + 1 := rfl
@[simp] theorem SrcPort.silent_log (p : SrcPort) : (p.silent).log = p.log := rfl
@[simp] theorem SrcPort.decide_stream (p : SrcPort) (d : SrcDraw) : (p.decide d).stream = p.stream := rfl
@[simp] theorem SrcPort.decide_draws (p : SrcPort) (d : SrcDraw) : (p.decide d).draws = d :: p.draws := rfl
@[simp] theorem SrcPort.decide_drawn (p : SrcPort) (d : SrcDraw) : (p.decide d).drawn = p.drawn := rfl
@[simp] theorem SrcPort.decide_log (p : SrcPort) (d : SrcDraw) : (p.decide d).log = p.log := rfl
@[simp] theorem SrcPort.consume_stream (p : SrcPort) (n : Nat) : (p.consume n).stream = p.stream.drop n := rfl
@[simp] theorem SrcPort.consume_draws (p : SrcPort) (n : Nat) : (p.consume n).draws = p.draws := rfl
@[simp] theorem SrcPort.consume_drawn (p : SrcPort) (n : Nat) : (p.consume n).drawn = p.drawn := rfl
@[simp] theorem SrcPort.consume_log (p : SrcPort) (n : Nat) : (p.consume n).log = p.log := rfl
@[simp] theorem SrcPort.wire_stream (p : SrcPort) (xs : List Byte) (ds : List SrcDraw) :
    (p.wire xs ds).stream = xs := rfl
@[simp] theorem SrcPort.wire_draws (p : SrcPort) (xs : List Byte) (ds : List SrcDraw) : (p.wire xs ds).draws = ds := rfl
@[simp] theorem SrcPort.wire_drawn (p : SrcPort) (xs : List Byte) (ds : List SrcDraw) :
    (p.wire xs ds).drawn = p.drawn := rfl
@[simp] theorem SrcPort.wire_log (p : SrcPort) (xs : List Byte) (ds : List SrcDraw) : (p.wire xs ds).log = p.log := rfl
@[simp] theorem SrcPort.after_data_stream (p : SrcPort) (len : Nat) (xs : List Byte) :
    (p.after len (.data xs)).stream = p.stream.drop xs.length := rfl
@[simp] theorem SrcPort.after_err_stream (p : SrcPort) (len : Nat) (e : ErrVal) :
    (p.after len (.err e)).stream = p.stream := rfl
@[simp] theorem SnkPort.after_draws (p : SnkPort) (xs : List Byte) (a : SnkAnswer) :
    (p.after xs a).draws = p.draws.tail := rfl
@[simp] theorem SnkPort.after_drawn (p : SnkPort) (xs : List Byte) (a : SnkAnswer) :
    (p.after xs a).drawn = p.drawn + 1 := rfl
@[simp] theorem SnkPort.after_log (p : SnkPort) (xs : List Byte) (a : SnkAnswer) :
    (p.after xs a).log = p.log ++ [.write xs a] := rfl
@[simp] theorem SnkPort.afterFlush_stream (p : SnkPort) (a : FlushAnswer) : (p.afterFlush a).stream = p.stream := rfl
@[simp] theorem SnkPort.afterFlush_draws (p : SnkPort) (a : FlushAnswer) : (p.afterFlush a).draws = p.draws.tail := rfl
@[simp] theorem SnkPort.afterFlush_drawn (p : SnkPort) (a : FlushAnswer) : (p.afterFlush a).drawn = p.drawn + 1 := rfl
@[simp] theorem SnkPort.afterFlush_log (p : SnkPort) (a : FlushAnswer) :
    (p.afterFlush a).log = p.log ++ [.flush a] := rfl
@[simp] theorem SnkPort.silent_stream (p : SnkPort) : (p.silent).stream = p.stream := rfl
@[simp] theorem SnkPort.silent_draws (p : SnkPort) : (p.silent).draws = p.draws.tail := rfl
@[simp] theorem SnkPort.silent_drawn (p : SnkPort) : (p.silent).drawn = p.drawn + 1 := rfl
@[simp] theorem SnkPort.silent_log (p : SnkPort) : (p.silent).log = p.log := rfl
@[simp] theorem SnkPort.decide_stream (p : SnkPort) (d : SnkDraw) : (p.decide d).stream = p.stream := rfl
@[simp] theorem SnkPort.decide_draws (p : SnkPort) (d : SnkDraw) : (p.decide d).draws = d :: p.draws := rfl
@[simp] theorem SnkPort.decide_drawn (p : SnkPort) (d : SnkDraw) : (p.decide d).drawn = p.drawn := rfl
@[simp] theorem SnkPort.decide_log (p : SnkPort) (d : SnkDraw) : (p.decide d).log = p.log := rfl
@[simp] theorem SnkPort.append_stream (p : SnkPort) (xs : List Byte) : (p.append xs).stream = p.stream ++ xs := rfl
@[simp] theorem SnkPort.append_draws (p : SnkPort) (xs : List Byte) : (p.append xs).draws = p.draws := rfl
@[simp] theorem SnkPort.append_drawn (p : SnkPort) (xs : List Byte) : (p.append xs).drawn = p.drawn := rfl
@[simp] theorem SnkPort.append_log (p : SnkPort) (xs : List Byte) : (p.append xs).log = p.log := rfl
@[simp] theorem SnkPort.wire_stream (p : SnkPort) (xs : List Byte) (ds : List SnkDraw) :
    (p.wire xs ds).stream = xs := rfl
@[simp] theorem SnkPort.wire_draws (p : SnkPort) (xs : List Byte) (ds : List SnkDraw) : (p.wire xs ds).draws = ds := rfl
@[simp] theorem SnkPort.wire_drawn (p : SnkPort) (xs : List Byte) (ds : List SnkDraw) :
    (p.wire xs ds).drawn = p.drawn := rfl
@[simp] theorem SnkPort.wire_log (p : SnkPort) (xs : List Byte) (ds : List SnkDraw) : (p.wire xs ds).log = p.log := rfl
@[simp] theorem SnkPort.after_ack_stream (p : SnkPort) (xs : List Byte) (m : Nat) :
    (p.after xs (.ack m)).stream = p.stream ++ xs.take m := rfl
@[simp] theorem SnkPort.after_err_stream (p : SnkPort) (xs : List Byte) (e : ErrVal) :
    (p.after xs (.err e)).stream = p.stream := rfl

/-! ## Replies -/

@[simp] theorem Reply.isWaiting_noCommand : Reply.noCommand.isWaiting = false := rfl
@[simp] theorem Reply.isWaiting_waiting (j : Job) (q : Request) : (Reply.waiting j q).isWaiting = true := rfl
@[simp] theorem Reply.isWaiting_response (p : Response) : (Reply.response p).isWaiting = false := rfl
@[simp] theorem Reply.given_noCommand : Reply.noCommand.given = none := rfl
@[simp] theorem Reply.given_waiting (j : Job) (q : Request) : (Reply.waiting j q).given = none := rfl
@[simp] theorem Reply.given_response (p : Response) : (Reply.response p).given = some p := rfl
@[simp] theorem Reply.grant_noCommand : Reply.noCommand.grant = .none := rfl
@[simp] theorem Reply.grant_waiting (j : Job) (q : Request) : (Reply.waiting j q).grant = .none := rfl
@[simp] theorem Reply.grant_response (p : Response) : (Reply.response p).grant = p.grant := rfl

/-- An engine has answered exactly with the response that is given. -/
theorem Reply.given_eq_some {y : Reply} {p : Response} : y.given = some p ↔ y = .response p := by
  cases y <;> simp

/-! ## Observation -/

@[simp] theorem Response.observed_word (p : Response) : p.observed.word = p.word := rfl
@[simp] theorem Response.observed_err (p : Response) : p.observed.err = p.status.err := rfl
@[simp] theorem Response.observed_dataOut (p : Response) : p.observed.dataOut = p.dataOut := rfl
@[simp] theorem Response.observed_grant (p : Response) : p.observed.grant = p.grant := rfl
@[simp] theorem Reader.respond_shown (r : Reader) (p : Response) : (r.respond p).shown = some p.observed := rfl
@[simp] theorem Reader.await_shown (r : Reader) (j : Job) (q : Request) : (r.await j q).shown = none := rfl
@[simp] theorem Reader.respond_registers (r : Reader) (p : Response) : (r.respond p).registers = r.registers := rfl
@[simp] theorem Reader.await_registers (r : Reader) (j : Job) (q : Request) : (r.await j q).registers = r.registers := rfl
@[simp] theorem Reader.setPort_registers (r : Reader) (p : SrcPort) : (r.setPort p).registers = r.registers := rfl
@[simp] theorem Writer.respond_shown (w : Writer) (p : Response) : (w.respond p).shown = some p.observed := rfl
@[simp] theorem Writer.await_shown (w : Writer) (j : Job) (q : Request) : (w.await j q).shown = none := rfl
@[simp] theorem Writer.respond_registers (w : Writer) (p : Response) : (w.respond p).registers = w.registers := rfl
@[simp] theorem Writer.await_registers (w : Writer) (j : Job) (q : Request) : (w.await j q).registers = w.registers := rfl
@[simp] theorem Writer.setPort_registers (w : Writer) (p : SnkPort) : (w.setPort p).registers = w.registers := rfl
@[simp] theorem Writer.setDataIn_registers (w : Writer) (xs : List Byte) : (w.setDataIn xs).registers = w.registers := rfl

end Sys2Proof.Machine
end

