-- ==== Sys2Proof/Laws/Ops.lean ====
section
/-! SUPPORT. For each shared operation, one lemma that says everything it can do. -/

namespace Sys2Proof.Machine

/-! ## Ports -/

/-- Every answer to `SrcRead(len)`: data no longer than asked for from the front of the stream, or, for a request that is
not empty, an error. -/
theorem SrcPort.answer_cases {p : SrcPort} {len : Nat} {a : SrcAnswer} (h : p.answer len = some a) :
    (∃ xs, a = .data xs ∧ xs.length ≤ len ∧ xs <+: p.stream) ∨ (∃ e, a = .err e ∧ len ≠ 0) := by
  unfold SrcPort.answer at h
  split at h
  · rename_i n _
    cases h
    exact .inl ⟨_, rfl, by simp, List.take_prefix _ _⟩
  · rename_i e _
    cases h
    by_cases hl : len = 0
    · exact .inl ⟨[], by simp [hl], by simp, List.nil_prefix⟩
    · exact .inr ⟨e, by simp [hl], hl⟩
  · cases h

/-- Data answered to `SrcRead(len)` and the stream it leaves make up the stream before. -/
theorem SrcPort.stream_of_data {p : SrcPort} {len : Nat} {xs : List Byte} (h : p.answer len = some (.data xs)) :
    p.stream = xs ++ (p.after len (.data xs)).stream := by
  obtain ⟨ys, hy, -, hp⟩ | ⟨e, he, -⟩ := p.answer_cases h
  · cases hy
    obtain ⟨zs, hz⟩ := hp
    simp [← hz]
  · cases he

/-- A port is silent on a request exactly if the environment's decision is to block. -/
theorem SrcPort.answer_eq_none {p : SrcPort} {len : Nat} : p.answer len = none ↔ p.draw = .block := by
  unfold SrcPort.answer
  cases p.draw <;> simp

/-- Every answer to `SnkWrite(xs)`: a count no larger than the offer, or, for an offer that is not empty, an error. -/
theorem SnkPort.answer_cases {p : SnkPort} {xs : List Byte} {a : SnkAnswer} (h : p.answer xs = some a) :
    (∃ m, a = .ack m ∧ m ≤ xs.length) ∨ (∃ e, a = .err e ∧ xs ≠ []) := by
  unfold SnkPort.answer at h
  split at h
  · cases h
    exact .inl ⟨_, rfl, Nat.min_le_right _ _⟩
  · rename_i e _
    cases h
    by_cases hl : xs = []
    · exact .inl ⟨0, by simp [hl], Nat.zero_le _⟩
    · exact .inr ⟨e, by simp [hl], hl⟩
  · cases h

/-- A port is silent on an offer exactly if the environment's decision is to block. -/
theorem SnkPort.answer_eq_none {p : SnkPort} {xs : List Byte} : p.answer xs = none ↔ p.draw = .block := by
  unfold SnkPort.answer
  cases p.draw <;> simp

/-- A port is silent on a flush request exactly if the environment's decision is to block. -/
theorem SnkPort.flushAnswer_eq_none {p : SnkPort} : p.flushAnswer = none ↔ p.draw = .block := by
  unfold SnkPort.flushAnswer
  cases p.draw <;> simp

/-! ## The attachment check -/

/-- The attachment check lets an attached reader through and answers `DETACHED` for a detached one. -/
theorem Reader.whenAttached_cases (r k : Reader) :
    (r.attached = true ∧ r.whenAttached k = k) ∨
      (r.attached = false ∧ r.whenAttached k = r.respond (.failure (.sequenceError .detached))) := by
  cases h : r.attached <;> simp [Reader.whenAttached, Reader.raise, h]

/-- The attachment check lets an attached writer through and answers `DETACHED` for a detached one. -/
theorem Writer.whenAttached_cases (w k : Writer) :
    (w.attached = true ∧ w.whenAttached k = k) ∨
      (w.attached = false ∧ w.whenAttached k = w.respond (.failure (.sequenceError .detached))) := by
  cases h : w.attached <;> simp [Writer.whenAttached, Writer.raise, h]

/-! ## Transfers -/

/-- One `SrcRead`: the port is silent and the reader waits, or the command goes on with its answer. -/
theorem Reader.srcRead_cases (r : Reader) (i : Instr) (len : Nat) (k : SrcAnswer → Reader → Reader) :
    (r.port.answer len = none ∧
        r.srcRead i len k = (r.setPort r.port.silent).await (.command i) (.srcRead len)) ∨
      (∃ a, r.port.answer len = some a ∧ r.srcRead i len k = k a (r.setPort (r.port.after len a))) := by
  unfold Reader.srcRead
  cases h : r.port.answer len <;> simp

/-- `FetchByte()`: the port is silent and the reader waits, or the command goes on with the byte, or it is answered with
an I/O error. -/
theorem Reader.fetchByte_cases (r : Reader) (i : Instr) (k : Byte → Reader → Reader) :
    (r.port.answer 1 = none ∧
        r.fetchByte i k = (r.setPort r.port.silent).await (.command i) (.srcRead 1)) ∨
      (∃ x, r.port.answer 1 = some (.data [x]) ∧ r.fetchByte i k = k x (r.setPort (r.port.after 1 (.data [x])))) ∨
      (r.port.answer 1 = some (.data []) ∧
        r.fetchByte i k = (r.setPort (r.port.after 1 (.data []))).raise (.ioError .unexpectedEof)) ∨
      (∃ e, r.port.answer 1 = some (.err e) ∧
        r.fetchByte i k = (r.setPort (r.port.after 1 (.err e))).raise (.ioError (.portError e))) := by
  unfold Reader.fetchByte
  obtain ⟨h, hk⟩ | ⟨a, h, hk⟩ := r.srcRead_cases i 1 _
  · exact .inl ⟨h, hk⟩
  · obtain ⟨xs, rfl, hx, -⟩ | ⟨e, rfl, -⟩ := SrcPort.answer_cases h
    · match xs, hx with
      | [], _ => exact .inr (.inr (.inl ⟨h, hk⟩))
      | [x], _ => exact .inr (.inl ⟨x, h, hk⟩)
    · exact .inr (.inr (.inr ⟨e, h, hk⟩))

/-- One `SnkWrite`: the port is silent and the writer waits, or the command goes on with its answer. -/
theorem Writer.snkWrite_cases (w : Writer) (i : Instr) (xs : List Byte) (k : SnkAnswer → Writer → Writer) :
    (w.port.answer xs = none ∧
        w.snkWrite i xs k = (w.setPort w.port.silent).await (.command i) (.snkWrite xs)) ∨
      (∃ a, w.port.answer xs = some a ∧ w.snkWrite i xs k = k a (w.setPort (w.port.after xs a))) := by
  unfold Writer.snkWrite
  cases h : w.port.answer xs <;> simp

/-- One `SnkFlush`: the port is silent and the writer waits, or the command goes on with its answer. -/
theorem Writer.snkFlush_cases (w : Writer) (i : Instr) (k : FlushAnswer → Writer → Writer) :
    (w.port.flushAnswer = none ∧ w.snkFlush i k = (w.setPort w.port.silent).await (.command i) .snkFlush) ∨
      (∃ a, w.port.flushAnswer = some a ∧ w.snkFlush i k = k a (w.setPort (w.port.afterFlush a))) := by
  unfold Writer.snkFlush
  cases h : w.port.flushAnswer <;> simp

/-- `SinkByte(b)`: the port is silent and the writer waits, or the sink has taken the byte and the command goes on, or it
is answered with the status that `failed` makes of the cause. -/
theorem Writer.sinkByte_cases (w : Writer) (i : Instr) (b : Byte) (failed : IoCause → Status) (k : Writer → Writer) :
    (w.port.answer [b] = none ∧
        w.sinkByte i b failed k = (w.setPort w.port.silent).await (.command i) (.snkWrite [b])) ∨
      (w.port.answer [b] = some (.ack 1) ∧ w.sinkByte i b failed k = k (w.setPort (w.port.after [b] (.ack 1)))) ∨
      (w.port.answer [b] = some (.ack 0) ∧
        w.sinkByte i b failed k = (w.setPort (w.port.after [b] (.ack 0))).raise (failed .writeZero)) ∨
      (∃ e, w.port.answer [b] = some (.err e) ∧
        w.sinkByte i b failed k = (w.setPort (w.port.after [b] (.err e))).raise (failed (.portError e))) := by
  unfold Writer.sinkByte
  obtain ⟨h, hk⟩ | ⟨a, h, hk⟩ := w.snkWrite_cases i [b] _
  · exact .inl ⟨h, hk⟩
  · obtain ⟨m, rfl, hm⟩ | ⟨e, rfl, -⟩ := SnkPort.answer_cases h
    · match m, hm with
      | 0, _ => exact .inr (.inr (.inl ⟨h, hk⟩))
      | 1, _ => exact .inr (.inl ⟨h, hk⟩)
    · exact .inr (.inr (.inr ⟨e, h, hk⟩))

/-- `FlushPartial()`: nothing when aligned, and otherwise `SinkByte` of the buffer, after which the cursor is clear. -/
theorem Writer.flushPartial_cases (w : Writer) (i : Instr) (failed : IoCause → Status) (k : Writer → Writer) :
    (w.off = 0 ∧ w.flushPartial i failed k = k w) ∨
      (w.off ≠ 0 ∧ w.flushPartial i failed k = w.sinkByte i w.buf failed fun w' => k (w'.setCursor 0 0)) := by
  unfold Writer.flushPartial Writer.aligned
  by_cases h : w.off = 0
  · exact .inl ⟨h, by rw [h]; rfl⟩
  · exact .inr ⟨h, by rw [if_neg (by simpa using h)]⟩

/-- A frame stays on the channel while its word is outstanding, and leaves it with the word's response. -/
theorem Writer.dropFrame_cases (w : Writer) (len : Nat) :
    (w.rsp.isWaiting = true ∧ w.dropFrame len = w) ∨
      (w.rsp.isWaiting = false ∧ w.dropFrame len = w.setDataIn (w.dataIn.drop len)) := by
  cases h : w.rsp.isWaiting <;> simp [Writer.dropFrame, h]

/-- Taking a frame: the job runs on its bytes, or the writer waits for them. -/
theorem Writer.takeData_cases (w : Writer) (j : Job) (len : Nat) (k : List Byte → Writer) :
    (len ≤ w.dataIn.length ∧ w.takeData j len k = (k (w.dataIn.take len)).dropFrame len) ∨
      (w.dataIn.length < len ∧ w.takeData j len k = w.await j (.dataIn len)) := by
  unfold Writer.takeData
  split <;> [left; right] <;> constructor <;> first | rfl | omega

/-! ## An engine inside the machine -/

/-- A reader operation changes the reader alone, and always gives a next state. -/
theorem State.onReader_eq_next {s t : State} {f : Params → Reader → Reader} :
    s.onReader f = .next t ↔ t = s.setReader (f s.params s.reader) := by
  simp [State.onReader, eq_comm]

/-- A writer operation changes the writer alone, and always gives a next state. -/
theorem State.onWriter_eq_next {s t : State} {f : Params → Writer → Writer} :
    s.onWriter f = .next t ↔ t = s.setWriter (f s.params s.writer) := by
  simp [State.onWriter, eq_comm]

/-- A move is made, or the machine stays as it is. -/
theorem whenMove_cases (ok : Bool) (s : State) (k : Result State) :
    (ok = true ∧ whenMove ok s k = k) ∨ (ok = false ∧ whenMove ok s k = .next s) := by
  cases ok <;> simp [whenMove]

/-! ## Byte sequences -/

/-- The walk of `R_READ` delivers as many bytes as it is given. -/
@[simp] theorem deliverShifted_length (B : Endian) (o : Nat) (prev : Byte) (xs : List Byte) :
    (deliverShifted B o prev xs).length = xs.length := by
  induction xs generalizing prev with
  | nil => rfl
  | cons x xs ih => simp [deliverShifted, ih]

/-- The staging pass of `W_WRITE` stages as many bytes as it is given. -/
@[simp] theorem stageShifted_length (B : Endian) (o : Nat) (prev : Byte) (ds : List Byte) :
    (stageShifted B o prev ds).length = ds.length := by
  induction ds generalizing prev with
  | nil => rfl
  | cons d ds ih => simp [stageShifted, ih]

end Sys2Proof.Machine
end

