-- ==== Sys2Proof/Laws/PerInstr.lean ====
section
/-! SUPPORT. A law about every command as syntax: what its word holds outside its operands (30_encoding.md R80). -/

namespace Sys2Proof.Laws

/-- The unit bit of a command word. -/
theorem unitField_commandWord (imm : BitVec 16) (cnt : BitVec 4) (u : BitVec 1) (op : BitVec 4) :
    unitField (commandWord imm cnt u op) = if u.getLsbD 0 then .writer else .reader := by
  have h : (commandWord imm cnt u op).getLsbD 4 = u.getLsbD 0 := by
    rw [commandWord, BitVec.getLsbD_append, if_neg (by omega), BitVec.getLsbD_append, if_pos (by omega)]
  rw [unitField, h]

/-- The reserved fields of a command word. -/
theorem reservedClear_commandWord (imm : BitVec 16) (cnt : BitVec 4) (u : BitVec 1) (op : BitVec 4) :
    reservedClear (commandWord imm cnt u op) = true := by
  have low : (commandWord imm cnt u op).extractLsb' 5 3 = 0#3 := by
    ext i hi
    simp only [commandWord, BitVec.getElem_extractLsb', BitVec.getLsbD_append]
    rw [if_neg (by omega), if_neg (by omega), if_pos (by omega)]
    simp
  have high : (commandWord imm cnt u op).extractLsb' 12 4 = 0#4 := by
    ext i hi
    simp only [commandWord, BitVec.getElem_extractLsb', BitVec.getLsbD_append]
    rw [if_neg (by omega), if_neg (by omega), if_neg (by omega), if_neg (by omega), if_pos (by omega)]
    simp
  simp [reservedClear, low, high]

namespace EncodeFrame

/-- The word of a command names the command's own unit and has clear reserved fields, whatever its operands are. -/
def Statement (i : Instr) : Prop := unitField (encode i) = i.engine ∧ reservedClear (encode i) = true

/-- A word whose `U` bit is 0 is a reader's. -/
theorem of_reader {i : Instr} {imm : BitVec 16} {cnt op : BitVec 4} (h : encode i = commandWord imm cnt 0 op)
    (hu : i.engine = .reader) : Statement i :=
  ⟨by rw [h, hu, unitField_commandWord]; rfl, by rw [h, reservedClear_commandWord]⟩

/-- A word whose `U` bit is 1 is a writer's. -/
theorem of_writer {i : Instr} {imm : BitVec 16} {cnt op : BitVec 4} (h : encode i = commandWord imm cnt 1 op)
    (hu : i.engine = .writer) : Statement i :=
  ⟨by rw [h, hu, unitField_commandWord]; rfl, by rw [h, reservedClear_commandWord]⟩

theorem rNew : Statement .rNew := of_reader rfl rfl
theorem rReadBit : Statement .rReadBit := of_reader rfl rfl
theorem rReadBits (count : Nat) : Statement (.rReadBits count) := of_reader rfl rfl
theorem rIsAligned : Statement .rIsAligned := of_reader rfl rfl
theorem rAlign : Statement .rAlign := of_reader rfl rfl
theorem rGetRef : Statement .rGetRef := of_reader rfl rfl
theorem rGetMut : Statement .rGetMut := of_reader rfl rfl
theorem rGetMutUnchecked : Statement .rGetMutUnchecked := of_reader rfl rfl
theorem rIntoInner : Statement .rIntoInner := of_reader rfl rfl
theorem rRead (len : Nat) : Statement (.rRead len) := of_reader rfl rfl
theorem rDrop : Statement .rDrop := of_reader rfl rfl
theorem wNew (len : Nat) : Statement (.wNew len) := of_writer rfl rfl
theorem wWriteBit (bit : Bool) : Statement (.wWriteBit bit) := of_writer rfl rfl
theorem wWriteBits (bits : Byte) (count : Nat) : Statement (.wWriteBits bits count) := of_writer rfl rfl
theorem wIsAligned : Statement .wIsAligned := of_writer rfl rfl
theorem wAlign : Statement .wAlign := of_writer rfl rfl
theorem wGetRef : Statement .wGetRef := of_writer rfl rfl
theorem wGetMut : Statement .wGetMut := of_writer rfl rfl
theorem wGetMutUnchecked : Statement .wGetMutUnchecked := of_writer rfl rfl
theorem wIntoInner : Statement .wIntoInner := of_writer rfl rfl
theorem wWrite (len : Nat) : Statement (.wWrite len) := of_writer rfl rfl
theorem wFlush : Statement .wFlush := of_writer rfl rfl
theorem wDrop : Statement .wDrop := of_writer rfl rfl

end EncodeFrame

end Sys2Proof.Laws
end

