-- ==== Sys2Proof/Tests/Slice0.lean ====
section
/-! SUPPORT. Tests. Expected values are those of spec/95_test_vectors.md (the vector is named) or are read off
spec/30_encoding.md; the witnesses at the end show that the hypotheses of each statement can be met together. -/

namespace Sys2Proof.Tests

open Sys2Proof Sys2Proof.Machine

/-! ## Helpers -/

/-- The parameters of an instance with one endianness for both engines. -/
def params (B : Endian) : Params := { readerEndian := B, writerEndian := B, stagingMode := .bounded }

/-- A state whose reader is attached, at this offset with this buffer, over this source. -/
def reading (B : Endian) (off : Offset) (buf : Byte) (src : List Byte) (draws : List SrcDraw) : State :=
  { State.powerOn (params B) with
    reader := { attached := true, off, buf, port := { stream := src, draws, drawn := 0, log := [] },
                released := false, rsp := .noCommand } }

/-- A state whose writer is attached, at this offset with this buffer, before an empty sink. -/
def writing (B : Endian) (off : Offset) (buf : Byte) (draws : List SnkDraw) : State :=
  { State.powerOn (params B) with
    writer :=
      { attached := true, off, buf, cap := 16, port := { stream := [], draws, drawn := 0, log := [] }, dataIn := [],
        released := false, rsp := .noCommand } }

/-- The writer's state with data bytes sent. -/
def sending (s : State) (data : List Byte) : State := { s with writer := { s.writer with dataIn := data } }

/-- The writer's state with another capacity and staging mode. -/
def staging (s : State) (cap : Half) (mode : StagingMode) : State :=
  { s with params := { s.params with stagingMode := mode }, writer := { s.writer with cap } }

/-- The next state, if there is one. -/
def nextOf (o : Host.Outcome State Fault Refusal) : Option State :=
  match o with
  | .next t => some t
  | .fault _ => none
  | .refused _ => none

/-- What a reader vector of the spec shows: offset, buffer, response, and the lengths requested. -/
structure ReaderSeen where
  off : Offset
  buf : Byte
  rsp : Reply
  asked : List Nat
  deriving DecidableEq

/-- What a writer vector of the spec shows: offset, buffer, response, and the sink transactions. -/
structure WriterSeen where
  off : Offset
  buf : Byte
  rsp : Reply
  log : List SnkTxn
  deriving DecidableEq

/-- The reader after a command. -/
def readerSeen (o : Host.Outcome State Fault Refusal) : Option ReaderSeen :=
  (nextOf o).map fun t => ⟨t.reader.off, t.reader.buf, t.reader.rsp, t.reader.port.log.map SrcTxn.asked⟩

/-- The writer after a command. -/
def writerSeen (o : Host.Outcome State Fault Refusal) : Option WriterSeen :=
  (nextOf o).map fun t => ⟨t.writer.off, t.writer.buf, t.writer.rsp, t.writer.port.log⟩

/-- A response with a value. -/
def val (v : Byte) : Reply := .response { status := .ok, result8 := v }

/-- A response that is a bare status. -/
def bare (st : Status) : Reply := .response { status := st }

/-- An error value. -/
def e7 : ErrVal := ⟨7⟩

/-! ## Well-formedness: one ill-formed term for each check -/

theorem test_illformed_rReadBits : (Instr.rReadBits 16).wellFormed = false := by decide
theorem test_illformed_rRead : (Instr.rRead 65536).wellFormed = false := by decide
theorem test_illformed_wNew : (Instr.wNew 65536).wellFormed = false := by decide
theorem test_illformed_wWriteBits : (Instr.wWriteBits 0 16).wellFormed = false := by decide
theorem test_illformed_wWrite : (Instr.wWrite 65536).wellFormed = false := by decide
theorem test_wellformed_bounds : (Instr.rReadBits 15).wellFormed = true ∧ (Instr.wWriteBits 255 15).wellFormed = true ∧
    (Instr.rRead 65535).wellFormed = true ∧ (Instr.wNew 65535).wellFormed = true ∧
    (Instr.wWrite 65535).wellFormed = true := by decide

/-! ## Decoding: a word of every row, written out from 30_encoding.md R80 to R86 -/

theorem test_decode_rNew : decode .reader 0b00000000000000000000000000000001 = .ok .rNew := by decide
theorem test_decode_rReadBit : decode .reader 0b00000000000000000000000000000010 = .ok .rReadBit := by decide
theorem test_decode_rReadBits : decode .reader 0b00000000000000000000101000000011 = .ok (.rReadBits 10) := by decide
theorem test_decode_rIsAligned : decode .reader 0b00000000000000000000000000000100 = .ok .rIsAligned := by decide
theorem test_decode_rAlign : decode .reader 0b00000000000000000000000000000101 = .ok .rAlign := by decide
theorem test_decode_rGetRef : decode .reader 0b00000000000000000000000000000110 = .ok .rGetRef := by decide
theorem test_decode_rGetMut : decode .reader 0b00000000000000000000000000000111 = .ok .rGetMut := by decide
theorem test_decode_rGetMutUnchecked :
    decode .reader 0b00000000000000000000000000001000 = .ok .rGetMutUnchecked := by decide
theorem test_decode_rIntoInner : decode .reader 0b00000000000000000000000000001001 = .ok .rIntoInner := by decide
theorem test_decode_rRead : decode .reader 0b10000000000000110000000000001010 = .ok (.rRead 32771) := by decide
theorem test_decode_rDrop : decode .reader 0b00000000000000000000000000001100 = .ok .rDrop := by decide
theorem test_decode_wNew : decode .writer 0b10000000000001000000000000010001 = .ok (.wNew 32772) := by decide
theorem test_decode_wWriteBit : decode .writer 0b00000000000000010000000000010010 = .ok (.wWriteBit true) := by decide
theorem test_decode_wWriteBits :
    decode .writer 0b00000000101111000000100000010011 = .ok (.wWriteBits 0xBC 8) := by decide
theorem test_decode_wIsAligned : decode .writer 0b00000000000000000000000000010100 = .ok .wIsAligned := by decide
theorem test_decode_wAlign : decode .writer 0b00000000000000000000000000010101 = .ok .wAlign := by decide
theorem test_decode_wGetRef : decode .writer 0b00000000000000000000000000010110 = .ok .wGetRef := by decide
theorem test_decode_wGetMut : decode .writer 0b00000000000000000000000000010111 = .ok .wGetMut := by decide
theorem test_decode_wGetMutUnchecked :
    decode .writer 0b00000000000000000000000000011000 = .ok .wGetMutUnchecked := by decide
theorem test_decode_wIntoInner : decode .writer 0b00000000000000000000000000011001 = .ok .wIntoInner := by decide
theorem test_decode_wWrite : decode .writer 0b00000000000001000000000000011010 = .ok (.wWrite 4) := by decide
theorem test_decode_wFlush : decode .writer 0b00000000000000000000000000011011 = .ok .wFlush := by decide
theorem test_decode_wDrop : decode .writer 0b00000000000000000000000000011100 = .ok .wDrop := by decide

/-- Vectors 2.2, the illegal words given to a reader. -/
theorem test_illegal_reader : decode .reader 0x00000000 = .error .unusedOpcode ∧
    decode .reader 0x0000000B = .error .unusedOpcode ∧ decode .reader 0x0000000D = .error .unusedOpcode ∧
    decode .reader 0x0000000F = .error .unusedOpcode ∧ decode .reader 0x00000024 = .error .reservedBits ∧
    decode .reader 0x00000101 = .error .operandField ∧ decode .reader 0x00001003 = .error .reservedBits ∧
    decode .reader 0x00010003 = .error .operandField ∧ decode .reader 0x00000011 = .error .wrongUnit ∧
    decode .reader 0x00000102 = .error .operandField := by decide

/-- Vectors 2.2, the illegal words given to a writer. -/
theorem test_illegal_writer : decode .writer 0x00000010 = .error .unusedOpcode ∧
    decode .writer 0x0000001D = .error .unusedOpcode ∧ decode .writer 0x00020012 = .error .operandField ∧
    decode .writer 0x00000112 = .error .operandField ∧ decode .writer 0x01000013 = .error .operandField ∧
    decode .writer 0x00000114 = .error .operandField ∧ decode .writer 0x0000011A = .error .operandField ∧
    decode .writer 0x00000003 = .error .wrongUnit ∧ decode .writer 0x0000801B = .error .reservedBits := by decide

/-- R88: an illegal word with the writer's `OP` 0xA is framed like a legal one. -/
theorem test_frame_of_illegal : frameLength 0x0003011A = 3 ∧ frameLength 0x0003000A = 0 ∧ frameLength 0x00030011 = 0 := by
  decide

/-! ## The policy datapath: vectors 2.1 -/

theorem test_shifts : shiftTowardMsb .msbFirst 0xB4 3 = 0xA0 ∧ shiftTowardMsb .lsbFirst 0xB4 3 = 0x16 ∧
    shiftTowardMsb .msbFirst 0xB4 8 = 0 ∧ shiftTowardMsb .lsbFirst 0xB4 8 = 0 ∧
    shiftTowardLsb .msbFirst 0xB4 3 = 0x16 ∧ shiftTowardLsb .lsbFirst 0xB4 3 = 0xA0 ∧
    shiftTowardLsb .msbFirst 0xB4 0 = 0xB4 ∧ alignRight .msbFirst 0xB4 3 = 0xB4 ∧ alignRight .lsbFirst 0xB4 3 = 5 ∧
    alignRight .lsbFirst 0xB4 0 = 0 ∧ alignRight .lsbFirst 0xB4 8 = 0xB4 := by decide

theorem test_extract : extract .msbFirst 0xB4 3 = 5 ∧ extract .lsbFirst 0xB4 3 = 4 ∧ extract .msbFirst 0xB4 8 = 0xB4 ∧
    extract .lsbFirst 0xB4 8 = 0xB4 ∧ extract .msbFirst 0xB4 0 = 0 ∧ extract .lsbFirst 0xB4 0 = 0 := by decide

theorem test_place : place .msbFirst 0x0A 4 = 0xA0 ∧ place .lsbFirst 0x0A 4 = 0x0A ∧ place .msbFirst 0xFF 3 = 0xE0 ∧
    place .lsbFirst 0xFF 3 = 7 ∧ place .msbFirst 0xFF 0 = 0 ∧ place .lsbFirst 0xB4 8 = 0xB4 := by decide

theorem test_windows : rcombine .msbFirst 0xAA 0x8C 3 = 0x54 ∧ rcombine .lsbFirst 0xAA 0x8C 3 = 0x95 ∧
    rcombine .msbFirst 0xAA 0x8C 7 = 0x46 ∧ rcombine .lsbFirst 0xAA 0x8C 7 = 0x19 ∧
    rcombine .msbFirst 0xA5 0x2A 3 = 0x29 ∧ rcombine .lsbFirst 0xA5 0x2A 3 = 0x54 ∧
    wcombine .msbFirst 0xA0 0x54 3 = 0xAA ∧ wcombine .lsbFirst 0x05 0x54 3 = 0xA5 ∧ wtail .msbFirst 0x54 3 = 0x80 ∧
    wtail .lsbFirst 0x54 3 = 2 := by decide

/-! ## Reader commands: vectors 2.3 to 2.5 -/

/-- RR1 and RR2. -/
theorem test_rReadBit :
    readerSeen (exec .rReadBit (reading .msbFirst 0 0 [0xB4] [.deliver 1])) = some ⟨1, 0xB4, val 1, [1]⟩ ∧
    readerSeen (exec .rReadBit (reading .lsbFirst 0 0 [0xB4] [.deliver 1])) = some ⟨1, 0xB4, val 0, [1]⟩ ∧
    readerSeen (exec .rReadBit (reading .msbFirst 7 0xB4 [] [])) = some ⟨0, 0xB4, val 0, []⟩ ∧
    readerSeen (exec .rReadBit (reading .lsbFirst 7 0xB4 [] [])) = some ⟨0, 0xB4, val 1, []⟩ := by decide

/-- RR3: the end of the source. -/
theorem test_rReadBit_eof : readerSeen (exec .rReadBit (reading .msbFirst 0 0 [] [.deliver 1])) =
    some ⟨0, 0, bare (.ioError .unexpectedEof), [1]⟩ := by decide

/-- RR4, RR7, RR9 and RR10. -/
theorem test_rReadBits :
    readerSeen (exec (.rReadBits 0) (reading .msbFirst 0 0 [0xB4] [])) = some ⟨0, 0, val 0, []⟩ ∧
    readerSeen (exec (.rReadBits 5) (reading .msbFirst 3 0xB4 [] [])) = some ⟨0, 0xB4, val 0x14, []⟩ ∧
    readerSeen (exec (.rReadBits 5) (reading .lsbFirst 3 0xB4 [] [])) = some ⟨0, 0xB4, val 0x16, []⟩ ∧
    readerSeen (exec (.rReadBits 6) (reading .msbFirst 5 0xB4 [0x3C] [.deliver 1])) = some ⟨3, 0x3C, val 0x21, [1]⟩ ∧
    readerSeen (exec (.rReadBits 6) (reading .lsbFirst 5 0xB4 [0x3C] [.deliver 1])) = some ⟨3, 0x3C, val 0x25, [1]⟩ ∧
    readerSeen (exec (.rReadBits 8) (reading .msbFirst 5 0xB4 [0x3C] [.deliver 1])) = some ⟨5, 0x3C, val 0x87, [1]⟩ ∧
    readerSeen (exec (.rReadBits 8) (reading .lsbFirst 5 0xB4 [0x3C] [.deliver 1])) = some ⟨5, 0x3C, val 0xE5, [1]⟩ := by
  decide

/-- RR11 to RR14. -/
theorem test_rReadBits_errors :
    readerSeen (exec (.rReadBits 6) (reading .lsbFirst 5 0xB4 [] [.deliver 1])) =
      some ⟨5, 0xB4, bare (.ioError .unexpectedEof), [1]⟩ ∧
    readerSeen (exec (.rReadBits 6) (reading .msbFirst 5 0xB4 [] [.err e7])) =
      some ⟨5, 0xB4, bare (.ioError (.portError e7)), [1]⟩ ∧
    readerSeen (exec (.rReadBits 9) (reading .msbFirst 2 0xB4 [0x3C] [])) =
      some ⟨2, 0xB4, bare (.programmerError .countGt8), []⟩ ∧
    readerSeen (exec (.rReadBits 15) (reading .msbFirst 0 0 [0xB4] [])) =
      some ⟨0, 0, bare (.programmerError .countGt8), []⟩ := by decide

/-- RB1 to RB4. -/
theorem test_rRead :
    readerSeen (exec (.rRead 3) (reading .msbFirst 0 0 [1, 2, 3] [.deliver 3])) =
      some ⟨0, 0, (.response { status := .ok, n := 3, dataOut := [1, 2, 3] }), [3]⟩ ∧
    readerSeen (exec (.rRead 3) (reading .msbFirst 3 0xA5 [0x2A, 0x9B, 0xA3] [.deliver 3])) =
      some ⟨3, 0xA3, (.response { status := .ok, n := 3, dataOut := [0x29, 0x54, 0xDD] }), [3]⟩ ∧
    readerSeen (exec (.rRead 3) (reading .lsbFirst 3 0xA5 [0x2A, 0x9B, 0xA3] [.deliver 3])) =
      some ⟨3, 0xA3, (.response { status := .ok, n := 3, dataOut := [0x54, 0x65, 0x73] }), [3]⟩ ∧
    readerSeen (exec (.rRead 3) (reading .lsbFirst 3 0xA5 [0x2A, 0x9B] [.deliver 1])) =
      some ⟨3, 0x2A, (.response { status := .ok, n := 1, dataOut := [0x54] }), [3]⟩ ∧
    readerSeen (exec (.rRead 3) (reading .lsbFirst 3 0xA5 [] [.deliver 3])) = some ⟨3, 0xA5, val 0, [3]⟩ := by decide

/-- RB5 to RB7. -/
theorem test_rRead_edges :
    readerSeen (exec (.rRead 0) (reading .lsbFirst 3 0xA5 [1] [.deliver 3])) = some ⟨3, 0xA5, val 0, [0]⟩ ∧
    readerSeen (exec (.rRead 1) (reading .msbFirst 7 0xAA [0x8C] [.deliver 1])) =
      some ⟨7, 0x8C, (.response { status := .ok, n := 1, dataOut := [0x46] }), [1]⟩ ∧
    readerSeen (exec (.rRead 1) (reading .lsbFirst 7 0xAA [0x8C] [.deliver 1])) =
      some ⟨7, 0x8C, (.response { status := .ok, n := 1, dataOut := [0x19] }), [1]⟩ ∧
    readerSeen (exec (.rRead 2) (reading .lsbFirst 3 0xA5 [1] [.err e7])) =
      some ⟨3, 0xA5, bare (.ioError (.portError e7)), [2]⟩ := by decide

/-- RM2 and RM3. -/
theorem test_rAlign : readerSeen (exec .rAlign (reading .msbFirst 3 0xB4 [] [])) = some ⟨0, 0, val 0, []⟩ := by decide
theorem test_rIsAligned : readerSeen (exec .rIsAligned (reading .msbFirst 0 0xB4 [] [])) = some ⟨0, 0xB4, val 1, []⟩ ∧
    readerSeen (exec .rIsAligned (reading .msbFirst 3 0xB4 [] [])) = some ⟨3, 0xB4, val 0, []⟩ := by decide
theorem test_rGetMut :
    readerSeen (exec .rGetMut (reading .msbFirst 0 0 [] [])) = some ⟨0, 0, (.response { status := .ok, grant := .mut }), []⟩ ∧
    readerSeen (exec .rGetMut (reading .msbFirst 3 0xB4 [] [])) =
      some ⟨3, 0xB4, bare (.programmerError .getMutUnaligned), []⟩ := by decide
theorem test_rGetRef : readerSeen (exec .rGetRef (reading .msbFirst 5 0xB4 [] [])) =
    some ⟨5, 0xB4, (.response { status := .ok, grant := .ref }), []⟩ := by decide
theorem test_rGetMutUnchecked : readerSeen (exec .rGetMutUnchecked (reading .msbFirst 3 0xB4 [] [])) =
    some ⟨3, 0xB4, (.response { status := .ok, grant := .mutUnchecked }), []⟩ := by decide

/-- RM4. -/
theorem test_rIntoInner :
    (nextOf (exec .rIntoInner (reading .msbFirst 3 0xB4 [] []))).map (fun t => (t.reader.attached, t.reader.rsp)) =
      some (false, (.response { status := .ok, grant := .released })) := by decide
theorem test_rNew : readerSeen (exec .rNew State.reset) = some ⟨0, 0, val 0, []⟩ ∧
    readerSeen (exec .rNew (reading .msbFirst 2 0xB4 [] [])) =
      some ⟨2, 0xB4, bare (.sequenceError .alreadyAttached), []⟩ ∧
    readerSeen (exec .rReadBit State.reset) = some ⟨0, 0, bare (.sequenceError .detached), []⟩ := by decide
theorem test_rDrop :
    (nextOf (exec .rDrop (reading .msbFirst 2 0xB4 [] []))).map (fun t => (t.reader.attached, t.reader.rsp)) =
      some (false, val 0) ∧
    readerSeen (exec .rDrop State.reset) = some ⟨0, 0, val 0, []⟩ := by decide

/-! ## Writer commands: vectors 2.6 to 2.8 -/

/-- WW4, WW5 and WW10. -/
theorem test_wWriteBit :
    writerSeen (exec (.wWriteBit true) (writing .msbFirst 7 0xFE [.accept 1])) =
      some ⟨0, 0, val 0, [.write [0xFF] (.ack 1)]⟩ ∧
    writerSeen (exec (.wWriteBit true) (writing .lsbFirst 7 0x7F [.accept 1])) =
      some ⟨0, 0, val 0, [.write [0xFF] (.ack 1)]⟩ ∧
    writerSeen (exec (.wWriteBit false) (writing .lsbFirst 7 0 [.accept 1])) =
      some ⟨0, 0, val 0, [.write [0] (.ack 1)]⟩ ∧
    writerSeen (exec (.wWriteBit true) (writing .msbFirst 0 0 [])) = some ⟨1, 0x80, val 0, []⟩ ∧
    writerSeen (exec (.wWriteBit true) (writing .lsbFirst 0 0 [])) = some ⟨1, 0x01, val 0, []⟩ := by decide

/-- WW12. -/
theorem test_wWriteBit_err : writerSeen (exec (.wWriteBit true) (writing .msbFirst 7 0xFE [.err e7])) =
    some ⟨7, 0xFE, bare (.ioError (.portError e7)), [.write [0xFF] (.err e7)]⟩ := by decide

/-- WW1, WW3, WW7, WW8 and WW9. -/
theorem test_wWriteBits :
    writerSeen (exec (.wWriteBits 0xFF 3) (writing .msbFirst 0 0 [])) = some ⟨3, 0xE0, val 0, []⟩ ∧
    writerSeen (exec (.wWriteBits 0xFF 3) (writing .lsbFirst 0 0 [])) = some ⟨3, 0x07, val 0, []⟩ ∧
    writerSeen (exec (.wWriteBits 5 3) (writing .msbFirst 6 0xFC [.accept 1])) =
      some ⟨1, 0x80, val 0, [.write [0xFE] (.ack 1)]⟩ ∧
    writerSeen (exec (.wWriteBits 5 3) (writing .lsbFirst 6 0x3F [.accept 1])) =
      some ⟨1, 0x01, val 0, [.write [0x7F] (.ack 1)]⟩ ∧
    writerSeen (exec (.wWriteBits 0xBC 8) (writing .lsbFirst 4 0x0A [.accept 1])) =
      some ⟨4, 0x0B, val 0, [.write [0xCA] (.ack 1)]⟩ ∧
    writerSeen (exec (.wWriteBits 0xF6 3) (writing .lsbFirst 2 0x03 [])) = some ⟨5, 0x1B, val 0, []⟩ ∧
    writerSeen (exec (.wWriteBits 0xFF 0) (writing .msbFirst 5 0xA8 [])) = some ⟨5, 0xA8, val 0, []⟩ := by decide

/-- WW11 and WW13. -/
theorem test_wWriteBits_errors :
    writerSeen (exec (.wWriteBits 1 9) (writing .msbFirst 3 0xA0 [])) =
      some ⟨3, 0xA0, bare (.programmerError .countGt8), []⟩ ∧
    writerSeen (exec (.wWriteBits 5 3) (writing .msbFirst 6 0xFC [.accept 0])) =
      some ⟨6, 0xFC, bare (.ioError .writeZero), [.write [0xFE] (.ack 0)]⟩ := by decide

/-- "Test", the data of vectors 2.7. -/
def word : List Byte := [0x54, 0x65, 0x73, 0x74]

/-- WB1 to WB4. -/
theorem test_wWrite :
    writerSeen (exec (.wWrite 4) (sending (writing .msbFirst 3 0xA0 [.accept 4]) word)) =
      some ⟨3, 0x80, (.response { status := .ok, n := 4 }), [.write [0xAA, 0x8C, 0xAE, 0x6E] (.ack 4)]⟩ ∧
    writerSeen (exec (.wWrite 4) (sending (writing .lsbFirst 3 5 [.accept 2]) word)) =
      some ⟨3, 3, (.response { status := .ok, n := 2 }), [.write [0xA5, 0x2A, 0x9B, 0xA3] (.ack 2)]⟩ ∧
    writerSeen (exec (.wWrite 4) (sending (writing .lsbFirst 3 5 [.accept 0]) word)) =
      some ⟨3, 5, val 0, [.write [0xA5, 0x2A, 0x9B, 0xA3] (.ack 0)]⟩ ∧
    writerSeen (exec (.wWrite 4) (sending (staging (writing .msbFirst 3 0xA0 [.accept 4]) 2 .bounded) word)) =
      some ⟨3, 0xA0, (.response { status := .ok, n := 2 }), [.write [0xAA, 0x8C] (.ack 2)]⟩ := by decide

/-- WB5 to WB8. -/
theorem test_wWrite_edges :
    writerSeen (exec (.wWrite 4) (sending (staging (writing .msbFirst 3 0xA0 [.accept 4]) 2 .perCall) word)) =
      some ⟨3, 0x80, (.response { status := .ok, n := 4 }), [.write [0xAA, 0x8C, 0xAE, 0x6E] (.ack 4)]⟩ ∧
    writerSeen (exec (.wWrite 4) (sending (writing .msbFirst 0 0 [.accept 1]) word)) =
      some ⟨0, 0, (.response { status := .ok, n := 1 }), [.write word (.ack 1)]⟩ ∧
    writerSeen (exec (.wWrite 4) (sending (writing .msbFirst 3 0xA0 [.err e7]) word)) =
      some ⟨3, 0xA0, bare (.ioError (.portError e7)), [.write [0xAA, 0x8C, 0xAE, 0x6E] (.err e7)]⟩ ∧
    writerSeen (exec (.wWrite 0) (writing .lsbFirst 3 5 [.accept 0])) = some ⟨3, 5, val 0, [.write [] (.ack 0)]⟩ := by
  decide

/-- WM1 and WM3. -/
theorem test_wFlush :
    writerSeen (exec .wFlush (writing .msbFirst 3 0xA0 [.accept 1, .accept 0])) =
      some ⟨0, 0, val 0, [.write [0xA0] (.ack 1), .flush .ok]⟩ ∧
    writerSeen (exec .wFlush (writing .msbFirst 0 0 [.err e7])) =
      some ⟨0, 0, bare (.ioError (.portError e7)), [.flush (.err e7)]⟩ := by decide

/-- WM2, and a failed flush after a byte write that stands (20_memory.md R60). -/
theorem test_wFlush_errors :
    writerSeen (exec .wFlush (writing .msbFirst 3 0xA0 [.err e7])) =
      some ⟨3, 0xA0, bare (.ioError (.portError e7)), [.write [0xA0] (.err e7)]⟩ ∧
    writerSeen (exec .wFlush (writing .msbFirst 3 0xA0 [.accept 1, .err e7])) =
      some ⟨0, 0, bare (.ioError (.portError e7)), [.write [0xA0] (.ack 1), .flush (.err e7)]⟩ := by decide

/-- WM4 and WM5. -/
theorem test_wIntoInner :
    writerSeen (exec .wIntoInner (writing .msbFirst 3 0xA0 [.err e7])) =
      some ⟨3, 0xA0, bare (.flushOnUnwrap (.portError e7)), [.write [0xA0] (.err e7)]⟩ ∧
    writerSeen (exec .wIntoInner (writing .msbFirst 3 0xA0 [.accept 1])) =
      some ⟨0, 0, (.response { status := .ok, grant := .released }), [.write [0xA0] (.ack 1)]⟩ := by decide

/-- WM6. -/
theorem test_wDrop :
    (nextOf (exec .wDrop (writing .msbFirst 3 0xA0 [.err e7]))).map
      (fun t => (t.writer.attached, t.writer.off, t.writer.buf, t.writer.rsp, t.writer.port.log)) =
      some (false, 0, 0, val 0, [.write [0xA0] (.err e7)]) := by decide

/-- WM7 and WM8. -/
theorem test_wAlign :
    writerSeen (exec .wAlign (writing .msbFirst 3 0xA0 [.accept 0])) =
      some ⟨3, 0xA0, bare (.ioError .writeZero), [.write [0xA0] (.ack 0)]⟩ ∧
    writerSeen (exec .wAlign (writing .msbFirst 0 0 [])) = some ⟨0, 0, val 0, []⟩ := by decide

/-- WM9. -/
theorem test_wGetRef : writerSeen (exec .wGetRef (writing .msbFirst 4 0x50 [])) =
    some ⟨4, 0x50, (.response { status := .ok, grant := .ref }), []⟩ := by decide
theorem test_wGetMutUnchecked : writerSeen (exec .wGetMutUnchecked (writing .msbFirst 4 0x50 [])) =
    some ⟨4, 0x50, (.response { status := .ok, grant := .mutUnchecked }), []⟩ := by decide
theorem test_wGetMut :
    writerSeen (exec .wGetMut (writing .msbFirst 4 0x50 [])) =
      some ⟨4, 0x50, bare (.programmerError .getMutUnaligned), []⟩ ∧
    writerSeen (exec .wGetMut (writing .msbFirst 0 0 [])) = some ⟨0, 0, (.response { status := .ok, grant := .mut }), []⟩ := by
  decide
theorem test_wIsAligned : writerSeen (exec .wIsAligned (writing .msbFirst 4 0x50 [])) = some ⟨4, 0x50, val 0, []⟩ ∧
    writerSeen (exec .wIsAligned (writing .msbFirst 0 0 [])) = some ⟨0, 0, val 1, []⟩ := by decide

/-- WM10 and the default capacity (R173). -/
theorem test_wNew :
    (nextOf (exec (.wNew 4) State.reset)).map (fun t => (t.writer.attached, t.writer.cap)) = some (true, 4) ∧
    (nextOf (exec (.wNew 0) State.reset)).map (fun t => (t.writer.attached, t.writer.cap)) = some (true, 16) := by decide

/-! ## Steps -/

/-- The word placed is run by the next step. -/
theorem test_first_step :
    readerSeen (step (State.reset.withFetchWord 32 0x00000001)) = some ⟨0, 0, val 0, []⟩ ∧
    (nextOf (step (State.reset.withFetchWord 32 0x00040011))).map (fun t => t.writer.cap) = some 4 := by decide

/-- The response word of a programmer error (30_encoding.md R90 to R92, R96). -/
theorem test_response_word :
    ({ status := .programmerError .countGt8 } : Response).word = 0x00000012 ∧
    ({ status := .ok, result8 := 0xBC } : Response).word = 0x0000BC00 ∧
    ({ status := .ok, n := 4 } : Response).word = 0x00040000 := by decide

/-- What can be observed of a failed fetch: the response word, the error and the registers (60_exceptions.md R241). -/
theorem test_observed :
    (nextOf (exec (.rReadBits 6) (reading .msbFirst 5 0xB4 [] [.err e7]))).map (fun t => (t.reader.shown, t.reader.registers)) =
      some (some ⟨0x00000011, some e7, [], .none⟩, ⟨true, 5, 0xB4⟩) ∧
    State.reset.writer.shown = none ∧ State.reset.writer.registers = ⟨false, 0, 0, 16⟩ := by decide

/-- A host that has been granted nothing makes no direct move (20_memory.md R71). -/
theorem test_no_grant : nextOf (step { State.reset with host := [.appendSink [1]] }) = some State.reset := by decide

/-- In a `REF` window the host inspects the stream and does not consume it (20_memory.md R70). -/
theorem test_ref_window :
    ((nextOf (step { reading .msbFirst 3 0xA5 [7] [] with host := [.readerCommand 0x00000006, .consumeSource 1, .inspectSource] })).bind
      fun t => (nextOf (step t)).bind fun u => nextOf (step u)).map (fun t => (t.reader.port.stream, t.view)) =
      some ([7], some [7]) := by decide

/-- Make so many moves of the host's list. -/
def steps : Nat → State → Option State
  | 0, s => some s
  | n + 1, s => (nextOf (step s)).bind (steps n)

/-! ## Waiting (60_exceptions.md R236, R240, R243) -/

/-- A silent source leaves the reader with its command and its request outstanding, and its registers as they were. -/
theorem test_silent_source : readerSeen (exec (.rReadBits 6) (reading .lsbFirst 5 0xB4 [0x3C] [.block])) =
    some ⟨5, 0xB4, .waiting (.command (.rReadBits 6)) (.srcRead 1), []⟩ := by decide

/-- While the reader waits, the writer runs its commands (R240), and the reader accepts none (20_memory.md R63). -/
theorem test_writer_runs_while_reader_waits :
    (steps 3 { reading .msbFirst 0 0 [] [.block] with
      host := [.readerCommand 0x00000002, .writerCommand 0x00040011 [], .readerCommand 0x0000000C] }).map
        (fun t => (t.reader.attached, t.reader.rsp, t.writer.attached, t.writer.cap)) =
      some (true, .waiting (.command .rReadBit) (.srcRead 1), true, 4) := by decide

/-- A power-on reset ends a wait (70_reset_and_hazards.md R260). -/
theorem test_reset_while_waiting :
    (steps 2 { reading .msbFirst 0 9 [7] [.block] with host := [.readerCommand 0x00000002, .powerOnReset] }).map
        (fun t => (t.reader.attached, t.reader.buf, t.reader.rsp, t.reader.port.stream)) =
      some (false, 0, .noCommand, [7]) := by decide

/-- RR10, with the fetched byte coming late. -/
theorem test_late_answer :
    (steps 2 { reading .lsbFirst 5 0xB4 [0x3C] [.block] with
      host := [.readerCommand 0x00000803, .sourceAnswers (.deliver 1)] }).map
        (fun t => (t.reader.off, t.reader.buf, t.reader.rsp)) = some (5, 0x3C, val 0xE5) := by decide

/-- WM1, with the sink's two answers coming late. -/
theorem test_late_flush :
    (steps 3 { writing .msbFirst 3 0xA0 [.block, .block] with
      host := [.writerCommand 0x0000001B [], .sinkAnswers (.accept 1), .sinkAnswers (.accept 0)] }).map
        (fun t => (t.writer.off, t.writer.rsp, t.writer.port.log)) =
      some (0, val 0, [.write [0xA0] (.ack 1), .flush .ok]) := by decide

/-- WB1, with the data bytes in two parts; a fifth byte is not sent. -/
theorem test_late_data :
    (steps 3 { writing .msbFirst 3 0xA0 [.accept 4] with
      host := [.writerCommand 0x0004001A [0x54], .writerData [0x65, 0x73, 0x74, 0], .writerData [0x65, 0x73, 0x74]] }).map
        (fun t => (t.writer.buf, t.writer.rsp, t.writer.dataIn)) =
      some (0x80, .response { status := .ok, n := 4 }, []) := by decide

/-- A released sink stays the host's after the next command, and is no longer when it is wired anew (20_memory.md R71). -/
theorem test_released_for_good :
    (steps 5 { writing .msbFirst 0 0 [] with
      host := [.writerCommand 0x00000019 [], .writerCommand 0x0000001C [], .appendSink [1], .wireSink [2] [],
        .appendSink [3]] }).map (fun t => (t.writer.released, t.writer.port.stream)) = some (false, [2]) ∧
    (steps 3 { writing .msbFirst 0 0 [] with
      host := [.writerCommand 0x00000019 [], .writerCommand 0x0000001C [], .appendSink [1]] }).map
        (fun t => t.writer.port.stream) = some [1] := by decide

/-! ## Witnesses: the hypotheses of each statement can be met together

A statement that is not named here has no hypothesis. -/

theorem test_witness_DecodeOfEncode : (Instr.wWriteBits 0xFF 15).wellFormed = true ∧
    (Instr.rRead 65535).wellFormed = true ∧ Instr.rDrop.wellFormed = true := by decide

theorem test_witness_EncodeOfDecode : decode .writer 0xFFFF001A = .ok (.wWrite 65535) ∧
    decode .reader 0x00000F03 = .ok (.rReadBits 15) := by decide

theorem test_witness_OpcodeMapIsTotalAndUnambiguous :
    ∃ r ∈ rowsOf .writer, r.matches 0x00FF0F13 ∧ decode .writer 0x00FF0F13 = .ok (.wWriteBits 0xFF 15) :=
  ⟨⟨.writer, 0x00000013, 0xFF00F0FF⟩, by decide, rfl, by decide⟩

/-- The bounds of the policy statements at their ends, each clause of the shifts among them. -/
theorem test_witness_policy_bounds : bitAt .msbFirst (shiftTowardMsb .msbFirst 0x01 7) 0 = true ∧
    bitAt .msbFirst (shiftTowardMsb .msbFirst 0xFF 8) 7 = false ∧
    bitAt .lsbFirst (shiftTowardLsb .lsbFirst 0x01 7) 7 = true ∧
    bitAt .lsbFirst (shiftTowardLsb .lsbFirst 0xFF 8) 7 = false ∧
    (extract .msbFirst 0xFF 8).toNat = 255 ∧ place .lsbFirst 0xFF 8 = 0xFF ∧
    rcombine .msbFirst 0x7F 0x80 1 = 0xFF ∧ rcombine .lsbFirst 0x80 0x7F 7 = 0xFF := by decide

theorem test_witness_WriterWindowJoinsBytes : ∀ i, 7 ≤ i → i < 8 → bitAt .msbFirst 0xFE i = false := by
  intro i h1 h2
  have h : i = 7 := by omega
  subst h
  decide

theorem test_witness_PowerOnResetMakesNoTransfer :
    ∃ s : State, s.host = .powerOnReset :: [] ∧ s.writer.attached = true ∧ s.writer.off = 3 :=
  ⟨{ writing .msbFirst 3 0xA0 [] with host := [.powerOnReset] }, rfl, rfl, rfl⟩

theorem test_witness_StepRunsReaderCommand : (reading .msbFirst 0 0 [] []).reader.rsp.isWaiting = false ∧
    (reading .msbFirst 0 0 [] []).withFetchWord 32 0x00000803 =
      { reading .msbFirst 0 0 [] [] with host := [.readerCommand 0x00000803] } ∧
    decode .reader 0x00000803 = .ok (.rReadBits 8) := by decide

theorem test_witness_StepRunsWriterCommand : (writing .msbFirst 0 0 []).writer.rsp.isWaiting = false ∧
    [0, 0].length ≤ frameLength 0x0002001A ∧
    (writing .msbFirst 0 0 []).withFetchWord 32 0x0002001A =
      { writing .msbFirst 0 0 [] with host := [.writerCommand 0x0002001A [0, 0]] } ∧
    decode .writer 0x0002001A = .ok (.wWrite 2) := by decide

theorem test_witness_StepRunsTheWordPlaced : decodeTableWord 32 0x0002001A = some (.wWrite 2) ∧
    decodeTableWord 32 0x0000000C = some .rDrop := by decide

theorem test_witness_IllegalWordRefused : State.reset.reader.rsp.isWaiting = false ∧
    State.reset.writer.rsp.isWaiting = false ∧ State.reset.writer.dataIn = [] ∧ decode .reader 0x0000000B = .error .unusedOpcode ∧
    decode .writer 0x0002011A = .error .operandField ∧
    (if (0x0002011A#32).extractLsb' 0 5 = 0x1A#5 then (0x0002011A#32 >>> 16).toNat else 0) = [1, 2].length ∧
    (if (0x0002001D#32).extractLsb' 0 5 = 0x1A#5 then 1 else 0) = 0 ∧
    decode .writer 0x0002001D = .error .unusedOpcode := by decide

theorem test_witness_SourcePortContract :
    (SrcPort.mk [1, 2, 3] [.deliver 2] 0 []).answer 2 = some (.data [1, 2]) ∧
    (SrcPort.mk [1] [.err e7] 0 []).answer 1 = some (.err e7) ∧
    (SrcPort.mk [1] [.err e7] 0 []).answer 0 = some (.data []) ∧
    (SrcPort.mk [1] [.block] 0 []).answer 1 = none := by decide

theorem test_witness_SinkPortContract :
    (SnkPort.mk [] [.accept 2] 0 []).answer [1, 2] = some (.ack 2) ∧
    (SnkPort.mk [] [.err e7] 0 []).answer [1] = some (.err e7) ∧
    (SnkPort.mk [] [.err e7] 0 []).answer [] = some (.ack 0) ∧
    (SnkPort.mk [] [.err e7] 0 []).flushAnswer = some (.err e7) ∧
    (SnkPort.mk [] [.accept 0] 0 []).flushAnswer = some .ok ∧
    (SnkPort.mk [] [.block] 0 []).answer [1] = none := by decide

theorem test_witness_NewReaderAttaches : State.reset.reader.attached = false ∧
    (reading .lsbFirst 5 0xB4 [] []).reader.attached = true := by decide

/-- Each clause of `ReadBitDeliversNextBit`: no fetch at offset 7, and the three answers to a fetch. -/
theorem test_witness_ReadBitDeliversNextBit : (reading .lsbFirst 7 0xB4 [] []).reader.off ≠ 0 ∧
    (reading .lsbFirst 0 0 [9] [.deliver 1]).reader.port.answer 1 = some (.data [9]) ∧
    (reading .lsbFirst 0 0 [] [.deliver 1]).reader.port.answer 1 = some (.data []) ∧
    (reading .lsbFirst 0 0 [] [.err e7]).reader.port.answer 1 = some (.err e7) := by decide

/-- The clauses of `ReadBitsDeliversField` where they meet: counts 8 and 9, and ends on and past the byte boundary. -/
theorem test_witness_ReadBitsDeliversField :
    readerSeen (exec (.rReadBits 9) (reading .msbFirst 0 0 [0xFF] [])) =
      some ⟨0, 0, bare (.programmerError .countGt8), []⟩ ∧
    readerSeen (exec (.rReadBits 0) (reading .msbFirst 7 1 [] [])) = some ⟨7, 1, val 0, []⟩ ∧
    readerSeen (exec (.rReadBits 1) (reading .msbFirst 7 1 [] [])) = some ⟨0, 1, val 1, []⟩ ∧
    readerSeen (exec (.rReadBits 2) (reading .msbFirst 7 1 [0x80] [.deliver 1])) = some ⟨1, 0x80, val 3, [1]⟩ ∧
    readerSeen (exec (.rReadBits 8) (reading .msbFirst 0 1 [0x80] [.deliver 1])) = some ⟨0, 0x80, val 0x80, [1]⟩ := by
  decide

theorem test_witness_ReaderQueriesAnswer : (reading .msbFirst 0 9 [] []).reader.off = 0 ∧
    (reading .msbFirst 1 9 [] []).reader.off ≠ 0 ∧ (reading .msbFirst 1 9 [] []).reader.attached = true := by decide

theorem test_witness_ReaderDiscards : State.reset.reader.attached = false ∧
    (reading .msbFirst 6 9 [] []).reader.attached = true := by decide

theorem test_witness_ReadDeliversBytes :
    (reading .msbFirst 3 0xA5 [1] [.err e7]).reader.port.answer 2 = some (.err e7) ∧
    (reading .msbFirst 0 0 [1, 2] [.deliver 2]).reader.port.answer 2 = some (.data [1, 2]) ∧
    (reading .msbFirst 7 0xA5 [1, 2] [.deliver 1]).reader.port.answer 2 = some (.data [1]) ∧
    (reading .msbFirst 7 0xA5 [] [.deliver 1]).reader.port.answer 65535 = some (.data []) := by decide

theorem test_witness_ReadIsEightBitReads : ∃ s t : State, s.reader.attached = true ∧
    s.reader.port.answer 2 = some (.data [0x2A, 0x9B]) ∧ exec (.rRead 2) s = .next t :=
  ⟨reading .lsbFirst 3 0xA5 [0x2A, 0x9B] [.deliver 2], _, rfl, rfl, rfl⟩

theorem test_witness_SourceTransferTable : ∃ t u, exec (.rRead 0) (reading .msbFirst 0 0 [] [.deliver 0]) = .next t ∧
    t.reader.requested = [0] ∧ exec .rReadBit (reading .msbFirst 0 0 [] [.block]) = .next u ∧ u.reader.requested = [1] :=
  ⟨_, _, rfl, rfl, rfl, rfl⟩

theorem test_witness_DeliveredBitsAreTheSourceStream :
    ∃ s bits t, s.reader.attached = false ∧
      (∀ i ∈ [Instr.rReadBits 3, .rRead 1], i.engine = .reader ∧ i ≠ .rAlign ∧ i ≠ .rIntoInner ∧ i ≠ .rDrop) ∧
      runDelivering [.rNew, .rReadBits 3, .rRead 1] s = some (bits, t) ∧ bits.length = 11 :=
  ⟨{ State.reset with reader := { State.reset.reader with
      port := { stream := [0xC3, 0x5E], draws := [.deliver 1, .deliver 1], drawn := 0, log := [] } } },
    _, _, rfl, by decide, rfl, rfl⟩

theorem test_witness_DeadBufferIsUnobservable : (reading .msbFirst 0 0xB4 [1] [.deliver 1]).reader.off = 0 := rfl

theorem test_witness_NewWriterAttaches : State.reset.writer.attached = false ∧
    (writing .msbFirst 3 0xA0 []).writer.attached = true ∧ 65535 ≤ 65535 := by decide

theorem test_witness_WriteBitDepositsBit : (writing .msbFirst 6 0 []).writer.off ≠ 7 ∧
    (writing .msbFirst 7 0 [.accept 1]).writer.port.answer [1] = some (.ack 1) ∧
    (writing .msbFirst 7 0 [.accept 0]).writer.port.answer [1] = some (.ack 0) ∧
    (writing .msbFirst 7 0 [.err e7]).writer.port.answer [1] = some (.err e7) := by decide

/-- The clauses of `WriteBitsDepositsField` where they meet: counts 8 and 9, and ends before and on the byte boundary. -/
theorem test_witness_WriteBitsDepositsField :
    writerSeen (exec (.wWriteBits 1 9) (writing .msbFirst 7 0xFE [])) =
      some ⟨7, 0xFE, bare (.programmerError .countGt8), []⟩ ∧
    writerSeen (exec (.wWriteBits 1 1) (writing .msbFirst 6 0xFC [])) = some ⟨7, 0xFE, val 0, []⟩ ∧
    writerSeen (exec (.wWriteBits 1 1) (writing .msbFirst 7 0xFE [.accept 1])) =
      some ⟨0, 0, val 0, [.write [0xFF] (.ack 1)]⟩ ∧
    writerSeen (exec (.wWriteBits 1 8) (writing .msbFirst 7 0xFE [.accept 1])) =
      some ⟨7, 0x02, val 0, [.write [0xFE] (.ack 1)]⟩ := by decide

theorem test_witness_WriteBitsIsWriteBitSequence : (writing .lsbFirst 5 0x15 [.accept 1]).writer.attached = true ∧
    (writing .lsbFirst 5 0x15 [.accept 1]).writer.port.draws = .accept (0 + 1) :: [] := by decide

theorem test_witness_WriterQueriesAnswer : (writing .msbFirst 0 0 []).writer.off = 0 ∧
    (writing .msbFirst 7 0 []).writer.off ≠ 0 ∧ (writing .msbFirst 7 0 []).writer.attached = true := by decide

/-- The three answers to a single-byte write, for `W_ALIGN`, `W_INTO_INNER`, `W_FLUSH` and `W_DROP`. -/
theorem test_witness_partial_byte_answers : (writing .msbFirst 3 0xA0 [.accept 1]).writer.off ≠ 0 ∧
    (writing .msbFirst 0 0 []).writer.off = 0 ∧
    (writing .msbFirst 3 0xA0 [.accept 1]).writer.port.answer [0xA0] = some (.ack 1) ∧
    (writing .msbFirst 3 0xA0 [.accept 0]).writer.port.answer [0xA0] = some (.ack 0) ∧
    (writing .msbFirst 3 0xA0 [.err e7]).writer.port.answer [0xA0] = some (.err e7) ∧
    State.reset.writer.attached = false := by decide

theorem test_witness_FlushWritesThenFlushes :
    (writing .msbFirst 0 0 [.accept 0]).writer.port.flushAnswer = some .ok ∧
    ((writing .msbFirst 3 0xA0 [.accept 1, .err e7]).writer.port.after [0xA0] (.ack 1)).flushAnswer =
      some (.err e7) := by decide

theorem test_witness_WriteOffersBytes :
    word.length ≤ (sending (writing .msbFirst 3 0xA0 [.accept 4]) word).writer.dataIn.length ∧
    (writing .msbFirst 0 0 [.accept 1]).writer.port.answer word = some (.ack 1) ∧
    (writing .msbFirst 3 0xA0 [.accept 4]).writer.port.answer [0xAA, 0x8C, 0xAE, 0x6E] = some (.ack 4) ∧
    (writing .msbFirst 3 0xA0 [.err e7]).writer.port.answer [0xAA, 0x8C, 0xAE, 0x6E] = some (.err e7) := by decide

theorem test_witness_DropMakesAlignTransfer : (writing .msbFirst 3 0xA0 [.accept 0]).writer.attached = true := rfl

/-- The pending bits 1, 0, 1 of an MSB-first writer meet the writer's invariant. -/
theorem test_pending_msb (draws : List SnkDraw) : (writing .msbFirst 3 0xA0 draws).writer.PendingOnly .msbFirst := by
  intro i h1 h2
  have h3 : 3 ≤ i := h1
  show bitAt .msbFirst 0xA0 i = false
  interval_cases i <;> decide

theorem test_witness_WriteIsEightBitWrites : ∃ s t p, s.writer.attached = true ∧
    s.writer.PendingOnly s.params.writerEndian ∧ 4 ≤ s.writer.dataIn.length ∧ exec (.wWrite 4) s = .next t ∧
    t.writer.rsp = .response p ∧ p.status = .ok ∧ p.n = 4 :=
  ⟨sending (writing .msbFirst 3 0xA0 [.accept 4]) word, _, _, rfl, test_pending_msb [.accept 4], by decide, rfl, rfl, rfl, rfl⟩

theorem test_witness_SinkTransferTable : ∃ t u v,
    exec (.wWriteBit true) (writing .msbFirst 7 0xFE [.accept 1]) = .next t ∧
    exec .wFlush (writing .msbFirst 3 0xA0 [.err e7]) = .next u ∧ u.writer.off ≠ 0 ∧
    exec .wFlush (writing .msbFirst 3 0xA0 [.accept 1, .err e7]) = .next v ∧ v.writer.off = 0 :=
  ⟨_, _, _, rfl, rfl, by decide, rfl, rfl⟩

theorem test_witness_TakenBitsAreTheSinkStream :
    ∃ s bits t, s.writer.attached = false ∧
      (∀ i ∈ [Instr.wWriteBits 5 3, .wAlign, .wWriteBits 1 1], i.engine = .writer ∧ i ≠ .wDrop) ∧
      runTaking [.wNew 0, .wWriteBits 5 3, .wAlign, .wWriteBits 1 1] s = some (bits, t) ∧
      bits = [true, false, true, false, false, false, false, false, true] ∧ t.writer.port.stream = [0xA0] :=
  ⟨{ State.reset with writer := { State.reset.writer with
      port := { stream := [], draws := [.accept 1, .accept 1], drawn := 0, log := [] } } }, _, _, rfl, by decide, rfl, rfl, rfl⟩

/-- Program P5 of spec/95_test_vectors.md: the groups 3, 0, 8, 5 over `C3 5E`. -/
theorem test_witness_RoundTripOfBitGroups :
    ∃ s : State, (∀ c ∈ [3, 0, 8, 5], c ≤ 8) ∧ [3, 0, 8, 5].sum = 8 * [0xC3, 0x5E].length ∧
      s.params.writerEndian = .msbFirst ∧ s.params.readerEndian = .msbFirst ∧
      s.writer.attached = true ∧ s.writer.off = 0 ∧ s.writer.buf = 0 ∧ s.writer.port.stream = [] ∧
      s.writer.port.draws = List.replicate 2 (.accept 1) ∧ s.reader.attached = true ∧ s.reader.off = 0 ∧
      s.reader.port.stream = [0xC3, 0x5E] ∧ s.reader.port.draws = List.replicate 2 (.deliver 1) ∧
      cutFields .msbFirst [3, 0, 8, 5] (streamBits .msbFirst [0xC3, 0x5E]) = [(6, 3), (0, 0), (0x1A, 8), (0x1E, 5)] :=
  ⟨{ writing .msbFirst 0 0 [.accept 1, .accept 1] with
      reader := (reading .msbFirst 0 0 [0xC3, 0x5E] [.deliver 1, .deliver 1]).reader }, by decide⟩

theorem test_witness_DetachedEngineRefuses : State.reset.attached (Instr.engine .rReadBit) = false ∧
    State.reset.attached (Instr.engine .wFlush) = false ∧
    2 ≤ (sending State.reset [1, 2]).writer.dataIn.length ∧ (sending State.reset [1, 2]).writer.attached = false := by
  decide

theorem test_witness_SequenceErrorExactly : ∃ t u, exec (.wNew 0) (writing .msbFirst 0 0 []) = .next t ∧
    t.reply .writer = bare (.sequenceError .alreadyAttached) ∧
    exec .rAlign State.reset = .next u ∧ u.reply .reader = bare (.sequenceError .detached) :=
  ⟨_, _, rfl, rfl, rfl, rfl⟩

theorem test_witness_ProgrammerErrorExactly : ∃ t u,
    exec (.rReadBits 9) (reading .msbFirst 0 0 [] []) = .next t ∧
    t.status .reader = some (.programmerError .countGt8) ∧ exec .wGetMut (writing .msbFirst 1 0 []) = .next u ∧
    u.status .writer = some (.programmerError .getMutUnaligned) := ⟨_, _, rfl, rfl, rfl, rfl⟩

theorem test_witness_FlushOnUnwrapOnlyFromIntoInner : ∃ t,
    exec .wIntoInner (writing .msbFirst 3 0xA0 [.accept 0]) = .next t ∧
    t.status .writer = some (.flushOnUnwrap .writeZero) := ⟨_, rfl, rfl⟩

theorem test_witness_FailedCommandChangesNothing : ∃ t u,
    exec .rReadBit (reading .msbFirst 0 0 [] [.err e7]) = .next t ∧
    t.status .reader = some (.ioError (.portError e7)) ∧
    exec .wFlush (writing .msbFirst 3 0xA0 [.accept 1, .err e7]) = .next u ∧
    u.status .writer = some (.ioError (.portError e7)) ∧ u.writer.port.stream = [0xA0] :=
  ⟨_, _, rfl, rfl, rfl, rfl, rfl⟩

theorem test_witness_PortErrorsPassThrough : ∃ t,
    exec (.rRead 2) (reading .msbFirst 0 0 [1] [.err e7]) = .next t ∧
    t.status .reader = some (.ioError (.portError e7)) ∧ t.reader.port.log.getLast? = some ⟨2, .err e7⟩ :=
  ⟨_, rfl, rfl, rfl⟩

/-- Each way to wait, and each command that its input lets through. -/
theorem test_witness_CommandsWaitExactlyForInput :
    srcRequests (reading .msbFirst 0 0 [] [.block]).reader .rReadBit = [1] ∧
    (reading .msbFirst 0 0 [] [.block]).reader.port.answer 1 = none ∧
    (sending (writing .msbFirst 3 0xA0 [.block]) [1]).writer.firstOffer (params .msbFirst) (.wWrite 1) = some [0xA0] ∧
    (writing .msbFirst 3 0xA0 [.block]).writer.port.answer [0xA0] = none ∧
    (writing .msbFirst 0 0 []).writer.dataIn.length < 1 ∧ (writing .msbFirst 0 0 [.block]).writer.port.flushAnswer = none ∧
    (writing .msbFirst 3 0xA0 [.accept 1, .block]).writer.port.answer [0xA0] = some (.ack 1) ∧
    ((writing .msbFirst 3 0xA0 [.accept 1, .block]).writer.port.after [0xA0] (.ack 1)).flushAnswer = none := by decide

theorem test_witness_ResponseWordFields : ({ status := .ok, n := 65535 } : Response).n ≤ 65535 ∧
    ({ status := .ok, n := 65535 } : Response).observed ≠ ({ status := .ok, n := 65534 } : Response).observed := by decide

theorem test_witness_EnginesShareNothing : ∃ t u, exec .rNew State.reset = .next t ∧
    exec (.wNew 4) State.reset = .next u := ⟨_, _, rfl, rfl⟩

/-- A window that admits a direct move, one that admits inspection alone, a stream released for good, one that is neither,
and a detached engine. -/
theorem test_witness_DirectAccessFollowsTheGrant :
    (∃ t, exec .wGetRef (writing .msbFirst 3 0xA0 []) = .next t ∧ t.writer.rsp = .response { status := .ok, grant := .ref } ∧
      t.writer.mayInspect = true ∧ t.writer.mayMutate = false) ∧
    (∃ t, exec .rGetMut (reading .msbFirst 0 0 [1] []) = .next t ∧ t.reader.mayMutate = true) ∧
    (∃ t, exec .wIntoInner (writing .msbFirst 0 0 []) = .next t ∧ t.writer.released = true ∧ t.writer.mayMutate = true) ∧
    State.reset.reader.mayInspect = false ∧ State.reset.writer.attached = false :=
  ⟨⟨_, rfl, rfl, rfl, rfl⟩, ⟨_, rfl, rfl⟩, ⟨_, rfl, rfl, rfl⟩, rfl, rfl⟩

/-- A released source, in a state that meets the invariant, keeps its host through the step of a move that is no `NEW` and no
rewiring: a power-on reset. -/
theorem test_witness_released_stays : ∃ s t : State, s.Inv ∧ step s = .next t ∧ s.reader.released = true ∧
    s.writer.released = true ∧ s.host = [.powerOnReset] ∧ t.reader.released = true := by
  refine ⟨{ State.reset with
      reader := { State.reset.reader with released := true }, writer := { State.reset.writer with released := true },
      host := [.powerOnReset] }, _, ?_, rfl, rfl, rfl, rfl, rfl⟩
  constructor
  · intro i _ _
    show bitAt .msbFirst 0 i = false
    simp [bitAt]
  · decide
  · exact fun _ => ⟨rfl, rfl⟩
  · exact fun _ => ⟨rfl, rfl⟩
  · exact fun _ h => nomatch h
  · exact fun _ h => nomatch h
  · exact fun _ => rfl
  · exact fun _ => rfl
  · exact fun _ _ h => nomatch h
  · exact fun _ _ h => nomatch h
  · rfl

theorem test_witness_StepKeepsInv : ∃ s t : State, s.Inv ∧ step s = .next t ∧ t.writer.off = 0 := by
  refine ⟨{ writing .msbFirst 3 0xA0 [.accept 1] with host := [.writerCommand 0x00000015 []] }, _, ?_, rfl, rfl⟩
  constructor
  · exact test_pending_msb [.accept 1]
  · decide
  · exact fun _ => ⟨rfl, rfl⟩
  · exact fun h => nomatch h
  · exact fun _ h => nomatch h
  · exact fun _ h => nomatch h
  · exact fun h => nomatch h
  · exact fun h => nomatch h
  · exact fun _ _ h => nomatch h
  · exact fun _ _ h => nomatch h
  · rfl

theorem test_witness_CommandsKeepPendingOnly : ∃ s t : State, s.writer.PendingOnly s.params.writerEndian ∧
    exec (.wWriteBits 3 2) s = .next t ∧ t.writer.off = 5 :=
  ⟨writing .msbFirst 3 0xA0 [], _, test_pending_msb [], rfl, rfl⟩

/-- A waiting writer that meets the invariant, and a move that does not reach it: another command. -/
theorem test_witness_WaitingEngineStaysWaiting : ∃ s t : State, s.Inv ∧ step s = .next t ∧
    s.writer.rsp.isWaiting = true ∧ s.host = [.writerCommand 0x0000001C []] ∧ s.writer.attached = true := by
  refine ⟨{ writing .msbFirst 3 0xA0 [] with
      writer := { (writing .msbFirst 3 0xA0 []).writer with rsp := .waiting (.command .wAlign) (.snkWrite [0xA0]) },
      host := [.writerCommand 0x0000001C []] }, _, ?_, rfl, rfl, rfl, rfl⟩
  constructor
  · exact test_pending_msb []
  · decide
  · exact fun _ => ⟨rfl, rfl⟩
  · exact fun h => nomatch h
  · exact fun _ h => nomatch h
  · exact fun _ h => nomatch h
  · exact fun h => nomatch h
  · exact fun h => nomatch h
  · exact fun _ _ h => nomatch h
  · intro j q h
    cases h
    exact ⟨rfl, _, rfl, rfl⟩
  · rfl

/-- A waiting reader command, and a writer command that waits for its first and one that waits for its second request. -/
theorem test_witness_LateAnswerCompletesCommand : ∃ t u v,
    exec (.rRead 2) (reading .msbFirst 0 0 [1] [.block]) = .next t ∧ t.reader.rsp.isWaiting = true ∧
    exec .wDrop (writing .msbFirst 3 0xA0 [.block]) = .next u ∧
    u.writer.rsp = .waiting (.command .wDrop) (.snkWrite [0xA0]) ∧
    exec .wFlush (writing .msbFirst 3 0xA0 [.accept 1, .block]) = .next v ∧
    v.writer.rsp = .waiting (.command .wFlush) .snkFlush := ⟨_, _, _, rfl, rfl, rfl, rfl, rfl, rfl⟩

/-- A legal and an illegal word whose frame comes in parts, and one whose frame is exceeded. -/
theorem test_witness_FrameMayComeInParts : (writing .msbFirst 0 0 []).writer.rsp.isWaiting = false ∧
    (writing .msbFirst 0 0 []).writer.dataIn = [] ∧ [1].length < frameLength 0x0003001A ∧
    [1].length + [2, 3].length ≤ frameLength 0x0003001A ∧ ([] : List Byte).length < frameLength 0x0001011A ∧
    frameLength 0x00000014 < [1].length ∧
    (∃ t, exec (.wWrite 2) (sending (writing .msbFirst 0 0 []) [1]) = .next t ∧
      t.writer.rsp = .waiting (.command (.wWrite 2)) (.dataIn 2) ∧ 2 < t.writer.dataIn.length + [2, 3].length) := by
  refine ⟨by decide, by decide, by decide, by decide, by decide, by decide, ⟨_, rfl, rfl, by decide⟩⟩

end Sys2Proof.Tests
end

section
/-! SUPPORT. What a legal command word decodes to: a command of its own engine, whose operand fits its field. -/

namespace Sys2Proof.Machine

/-! ## What a legal command word decodes to (30_encoding.md R80 to R89) -/

theorem cntField_le (w : Word) : cntField w ≤ 15 := Nat.le_of_lt_succ (w.extractLsb' 8 4).isLt

theorem lenField_le (w : Word) : lenField w ≤ 65535 := Nat.le_of_lt_succ (w.extractLsb' 16 16).isLt

theorem frameLength_le (w : Word) : frameLength w ≤ 65535 := by
  unfold frameLength
  split
  · exact lenField_le w
  · omega

theorem formatN_eq_ok {w : Word} {j i : Instr} :
    formatN w j = .ok i ↔ (cntField w = 0 ∧ lenField w = 0) ∧ j = i := by
  unfold formatN
  split <;> simp [*]

theorem formatC_eq_ok {w : Word} {f : Nat → Instr} {i : Instr} :
    formatC w f = .ok i ↔ lenField w = 0 ∧ f (cntField w) = i := by
  unfold formatC
  split <;> simp [*]

theorem formatD_eq_ok {w : Word} {f : Byte → Nat → Instr} {i : Instr} :
    formatD w f = .ok i ↔ w.extractLsb' 24 8 = 0#8 ∧ f (bitsField w) (cntField w) = i := by
  unfold formatD
  split <;> simp [*]

theorem formatB_eq_ok {w : Word} {f : Bool → Instr} {i : Instr} :
    formatB w f = .ok i ↔ (cntField w = 0 ∧ w.extractLsb' 17 15 = 0#15) ∧ f (bitField w) = i := by
  unfold formatB
  split <;> simp [*]

theorem formatL_eq_ok {w : Word} {f : Nat → Instr} {i : Instr} :
    formatL w f = .ok i ↔ cntField w = 0 ∧ f (lenField w) = i := by
  unfold formatL
  split <;> simp [*]

/-- A word is legal for a reader exactly if its unit and reserved bits are right and its row's format holds (R88). -/
theorem decode_reader_eq_ok {w : Word} {i : Instr} :
    decode .reader w = .ok i ↔ unitField w = .reader ∧ reservedClear w = true ∧ decodeReaderRow w = .ok i := by
  by_cases hu : unitField w = .reader <;> by_cases hr : reservedClear w = true <;> simp [decode, hu, hr]

/-- A word is legal for a writer exactly if its unit and reserved bits are right and its row's format holds (R88). -/
theorem decode_writer_eq_ok {w : Word} {i : Instr} :
    decode .writer w = .ok i ↔ unitField w = .writer ∧ reservedClear w = true ∧ decodeWriterRow w = .ok i := by
  by_cases hu : unitField w = .writer <;> by_cases hr : reservedClear w = true <;> simp [decode, hu, hr]

/-- A reader's row gives a reader command whose operand fits its field. -/
theorem decodeReaderRow_wellFormed {w : Word} {i : Instr} (h : decodeReaderRow w = .ok i) :
    i.wellFormed = true ∧ i.engine = .reader := by
  unfold decodeReaderRow at h
  split at h <;> simp only [formatN_eq_ok, formatC_eq_ok, formatL_eq_ok, reduceCtorEq] at h <;>
    obtain ⟨-, rfl⟩ := h <;>
    simp [Instr.wellFormed, Instr.engine, countFits, lenFits, cntField_le, lenField_le]

/-- The number of data-in bytes framed behind the word of a job: `LEN` behind a `W_WRITE` and an illegal word framed
like it, and none behind any other (R87, R88). -/
def Job.frameLength : Job → Nat
  | .command (.wWrite len) => len
  | .command _ => 0
  | .illegal len => len

/-- A writer's row gives a writer command whose operand fits its field, and `OP` 0xA exactly the one with a frame. -/
theorem decodeWriterRow_wellFormed {w : Word} {i : Instr} (h : decodeWriterRow w = .ok i) :
    i.wellFormed = true ∧ i.engine = .writer ∧
      (Job.command i).frameLength = if opField w = 0xA then lenField w else 0 := by
  unfold decodeWriterRow at h
  split at h <;>
    simp only [formatN_eq_ok, formatB_eq_ok, formatD_eq_ok, formatL_eq_ok, reduceCtorEq] at h <;>
    obtain ⟨-, rfl⟩ := h <;>
    simp [Instr.wellFormed, Instr.engine, countFits, lenFits, cntField_le, lenField_le, Job.frameLength, *]

end Sys2Proof.Machine
end

section
/-! SUPPORT. The bits of the policy datapath, one lemma per operation. -/

namespace Sys2Proof.Machine

/-! ## Bits of the datapath by policy index (40_policy.md R110 to R120) -/

@[simp] theorem bitAt_zero (B : Endian) (i : Nat) : bitAt B 0 i = false := by simp [bitAt]

@[simp] theorem bitAt_or (B : Endian) (v u : Byte) (i : Nat) : bitAt B (v ||| u) i = (bitAt B v i || bitAt B u i) := by
  simp [bitAt]

theorem getLsbD_shl8 (v : Byte) (k : Nat) {p : Nat} (hp : p < 8) :
    (shl8 v k).getLsbD p = (decide (k ≤ p) && v.getLsbD (p - k)) := by
  simp only [shl8, BitVec.getLsbD_shiftLeft, hp, decide_true, Bool.true_and, ← decide_not, Nat.not_lt]

theorem getLsbD_shr8 (v : Byte) (k p : Nat) : (shr8 v k).getLsbD p = v.getLsbD (p + k) := by
  simp [shr8, Nat.add_comm]

theorem pos_lt {i : Nat} (B : Endian) (hi : i < 8) : pos B i < 8 := by
  cases B <;> simp only [pos] <;> omega

/-- R116: toward the front of the stream, index `i` gets the bit of index `i + k`. -/
theorem bitAt_shiftTowardMsb (B : Endian) (v : Byte) (k : Nat) {i : Nat} (hi : i < 8) :
    bitAt B (shiftTowardMsb B v k) i = (decide (i + k < 8) && bitAt B v (i + k)) := by
  cases B with
  | msbFirst =>
    have hle : k ≤ 7 - i ↔ i + k < 8 := by omega
    simp only [bitAt, pos, shiftTowardMsb, getLsbD_shl8 v k (show 7 - i < 8 by omega), hle, Nat.sub_sub]
  | lsbFirst =>
    simp only [bitAt, pos, shiftTowardMsb, getLsbD_shr8]
    by_cases h : i + k < 8
    · simp [h]
    · simp [h, BitVec.getLsbD_of_ge v (i + k) (by omega)]

/-- R116: toward the back of the stream, index `i` gets the bit of index `i - k`. -/
theorem bitAt_shiftTowardLsb (B : Endian) (v : Byte) (k : Nat) {i : Nat} (hi : i < 8) :
    bitAt B (shiftTowardLsb B v k) i = (decide (k ≤ i) && bitAt B v (i - k)) := by
  cases B with
  | msbFirst =>
    simp only [bitAt, pos, shiftTowardLsb, getLsbD_shr8]
    by_cases h : k ≤ i
    · simp [h, show 7 - i + k = 7 - (i - k) by omega]
    · simp [h, BitVec.getLsbD_of_ge v (7 - i + k) (by omega)]
  | lsbFirst => simp only [bitAt, pos, shiftTowardLsb, getLsbD_shl8 v k hi]

theorem getLsbD_mask (c : Nat) {p : Nat} (hp : p < 8) : (mask c).getLsbD p = decide (p < c) := by
  simp only [mask, BitVec.getLsbD_ofNat, Nat.testBit_two_pow_sub_one, hp, decide_true, Bool.true_and]

/-- R120: `place` leaves every bit from policy index `c` on clear. -/
theorem bitAt_place_of_le (B : Endian) (f : Byte) {c i : Nat} (hc : c ≤ i) (hi : i < 8) :
    bitAt B (place B f c) i = false := by
  cases B with
  | msbFirst =>
    have hlt : ¬ 8 - c ≤ 7 - i := by omega
    simp [bitAt, pos, place, getLsbD_shl8 _ _ (show 7 - i < 8 by omega), hlt]
  | lsbFirst => simp [bitAt, pos, place, getLsbD_mask c hi, hc]

/-- R115: the bit that `W_WRITE_BIT` lays at policy index `o` is at no other index. -/
theorem bitAt_shl8_bitByte_of_ne (B : Endian) (b : Bool) {o i : Nat} (ho : o < 8) (hi : i < 8) (hne : o ≠ i) :
    bitAt B (shl8 (bitByte b) (pos B o)) i = false := by
  have hpos : pos B i - pos B o ≠ 0 ∨ ¬ pos B o ≤ pos B i := by cases B <;> simp only [pos] <;> omega
  rw [bitAt, getLsbD_shl8 _ _ (pos_lt B hi)]
  obtain h | h := hpos
  · cases b <;> simp [bitByte, h]
  · simp [h]

end Sys2Proof.Machine
end

section
/-! SUPPORT. The reader's part of the invariant: each operation on the reader keeps it, as does each reader command. -/

namespace Sys2Proof.Machine

/-! ## Legal responses -/

/-- A response that a reader may give (30_encoding.md R87, R90 to R93). -/
def Response.OfReader (a : Response) : Prop := a.Shaped ∧ a.status.ofReader = true ∧ a.dataOut.length = a.n

/-- A response that a writer may give (30_encoding.md R87, R90 to R93). -/
def Response.OfWriter (a : Response) : Prop := a.Shaped ∧ a.status.ofWriter = true ∧ a.dataOut = []

theorem Response.failure_shaped (st : Status) : (Response.failure st).Shaped :=
  ⟨fun _ => ⟨rfl, rfl, rfl, rfl⟩, Nat.zero_le _⟩

theorem Response.shaped_of_ok {a : Response} (h : a.status = .ok) (hn : a.n ≤ 65535) : a.Shaped :=
  ⟨fun hne => absurd h hne, hn⟩

theorem Response.OfReader.failure {st : Status} (h : st.ofReader = true) : (Response.failure st).OfReader :=
  ⟨failure_shaped st, h, rfl⟩

theorem Response.OfReader.okay : Response.okay.OfReader := ⟨shaped_of_ok rfl (Nat.zero_le _), rfl, rfl⟩

theorem Response.OfReader.value (v : Byte) : (Response.value v).OfReader :=
  ⟨shaped_of_ok rfl (Nat.zero_le _), rfl, rfl⟩

theorem Response.OfReader.granting (g : Grant) : (Response.granting g).OfReader :=
  ⟨shaped_of_ok rfl (Nat.zero_le _), rfl, rfl⟩

theorem Response.OfReader.bytes {out : List Byte} (h : out.length ≤ 65535) : (Response.bytes out).OfReader :=
  ⟨shaped_of_ok rfl h, rfl, rfl⟩

theorem Response.OfWriter.failure {st : Status} (h : st.ofWriter = true) : (Response.failure st).OfWriter :=
  ⟨failure_shaped st, h, rfl⟩

theorem Response.OfWriter.okay : Response.okay.OfWriter := ⟨shaped_of_ok rfl (Nat.zero_le _), rfl, rfl⟩

theorem Response.OfWriter.value (v : Byte) : (Response.value v).OfWriter :=
  ⟨shaped_of_ok rfl (Nat.zero_le _), rfl, rfl⟩

theorem Response.OfWriter.granting (g : Grant) : (Response.granting g).OfWriter :=
  ⟨shaped_of_ok rfl (Nat.zero_le _), rfl, rfl⟩

theorem Response.OfWriter.count {n : Nat} (h : n ≤ 65535) : (Response.count n).OfWriter :=
  ⟨shaped_of_ok rfl h, rfl, rfl⟩

/-! ## The reader's part of the invariant -/

/-- What the invariant says of the reader's registers, whatever its response port shows. -/
structure Reader.Held (r : Reader) : Prop where
  detached : r.DetachedClear
  released : r.ReleasedDetached

/-- What the invariant says of the reader. -/
structure Reader.Inv (r : Reader) : Prop extends r.Held where
  response : r.ResponseLegal
  waits : r.WaitLegal

theorem Reader.Held.setPort {r : Reader} (h : r.Held) (q : SrcPort) : (r.setPort q).Held :=
  ⟨h.detached, h.released⟩

/-- The cursor of an attached reader is free. -/
theorem Reader.Held.setCursor {r : Reader} (h : r.Held) (att : r.attached = true) (o : Offset) (b : Byte) :
    (r.setCursor o b).Held :=
  ⟨fun hd => absurd (att.symm.trans hd) nofun, h.released⟩

theorem Reader.Held.of_attached {r : Reader} (ha : r.attached = true) (hr : r.released = false) : r.Held :=
  ⟨fun hd => by simp [ha] at hd, fun hrel => by simp [hr] at hrel⟩

/-- A detached reader with a clear cursor is well kept, released or not. -/
theorem Reader.Held.of_detached {r : Reader} (hd : r.attached = false) (ho : r.off = 0) (hb : r.buf = 0) : r.Held :=
  ⟨fun _ => ⟨ho, hb⟩, fun _ => hd⟩

theorem Reader.Held.respond {r : Reader} (h : r.Held) {a : Response} (ha : a.OfReader) : (r.respond a).Inv where
  detached := h.detached
  released := h.released
  response := fun _ e => by cases e; exact ha
  waits := nofun

theorem Reader.Held.raise {r : Reader} (h : r.Held) {st : Status} (hst : st.ofReader = true) : (r.raise st).Inv :=
  h.respond (.failure hst)

/-- The attachment check keeps the invariant if what it lets through does. -/
theorem Reader.Held.whenAttached {r k : Reader} (h : r.Held) (hk : r.attached = true → k.Inv) :
    (r.whenAttached k).Inv := by
  obtain ⟨att, e⟩ | ⟨-, e⟩ := r.whenAttached_cases k <;> rw [e]
  · exact hk att
  · exact h.raise rfl

/-- A request that the command makes, and what goes on with each answer to it. -/
theorem Reader.Held.srcRead {r : Reader} (h : r.Held) {i : Instr} (wf : i.wellFormed = true) {len : Nat}
    (req : len ∈ srcRequests r i) {k : SrcAnswer → Reader → Reader}
    (data : ∀ xs q, xs.length ≤ len → (k (.data xs) (r.setPort q)).Inv)
    (err : ∀ e q, (k (.err e) (r.setPort q)).Inv) : (r.srcRead i len k).Inv := by
  obtain ⟨-, e⟩ | ⟨a, ha, e⟩ := r.srcRead_cases i len k <;> rw [e]
  · exact {
      detached := h.detached
      released := h.released
      response := nofun
      waits := fun _ _ e => by cases e; exact ⟨i, len, rfl, wf, rfl, req⟩ }
  · obtain ⟨xs, rfl, hx, -⟩ | ⟨_, rfl, -⟩ := SrcPort.answer_cases ha
    · exact data xs _ hx
    · exact err _ _

/-- A fetch that the command makes, and what goes on with the byte. -/
theorem Reader.Held.fetchByte {r : Reader} (h : r.Held) {i : Instr} (wf : i.wellFormed = true)
    (req : 1 ∈ srcRequests r i) {k : Byte → Reader → Reader} (hk : ∀ x q, (k x (r.setPort q)).Inv) :
    (r.fetchByte i k).Inv := by
  refine h.srcRead wf req (fun xs q _ => ?_) fun e q => (h.setPort q).raise rfl
  cases xs with
  | nil => exact (h.setPort q).raise rfl
  | cons x xs => exact hk x q

theorem Reader.Held.finishRead {r : Reader} (h : r.Held) (att : r.attached = true) (o : Offset) (b v : Byte) :
    (r.finishRead o b v).Inv :=
  (h.setCursor att o b).respond (.value v)

theorem Reader.Held.readField {r : Reader} (h : r.Held) (att : r.attached = true) (B : Endian) {c : Nat} (hc : c ≤ 8) :
    (r.readField B c).Inv := by
  unfold Reader.readField
  split
  · exact h.respond (.value 0)
  · split
    · exact h.finishRead att _ _ _
    · rename_i hpos hfit
      refine h.fetchByte (by simp [Instr.wellFormed, countFits]; omega) ?_ fun x q => (h.setPort q).finishRead att _ _ _
      have hneeds : r.off = 0 ∨ 8 < r.off.toNat + c := by
        simp only [Reader.aligned, beq_eq_false_iff_ne] at hfit
        by_cases ho : r.off = 0
        · exact .inl ho
        · exact .inr (by have := not_and.mp hfit ho; omega)
      simpa [srcRequests, att, hc, Nat.one_le_iff_ne_zero, hpos] using hneeds

/-! ## The reader inside the machine -/

/-- The outcome `x` replaces the reader of `s` by one that meets the invariant, and nothing else. -/
def State.ReaderEnds (s : State) (x : Result State) : Prop := ∃ r : Reader, r.Inv ∧ x = .next (s.setReader r)

theorem State.ReaderEnds.onReader {s : State} {f : Params → Reader → Reader} (h : (f s.params s.reader).Inv) :
    s.ReaderEnds (s.onReader f) := ⟨_, h, rfl⟩

/-- Every reader command leaves the reader with the invariant, whatever the response port showed before it. -/
theorem exec_readerEnds {s : State} (h : s.reader.Held) {i : Instr} (wf : i.wellFormed = true)
    (hi : i.engine = .reader) : s.ReaderEnds (exec i s) := by
  cases i with
  | rNew =>
    unfold exec execRNew
    refine .onReader ?_
    split
    · exact h.raise rfl
    · exact Reader.Held.respond (.of_attached rfl rfl) .okay
  | rReadBit =>
    unfold exec execRReadBit
    refine .onReader (h.whenAttached fun att => ?_)
    split
    · rename_i hal
      have req : 1 ∈ srcRequests s.reader .rReadBit := by simpa [srcRequests, att, Reader.aligned] using hal
      exact h.fetchByte rfl req fun x q => (h.setPort q).finishRead att _ _ _
    · exact h.finishRead att _ _ _
  | rReadBits c =>
    unfold exec execRReadBits
    refine .onReader (h.whenAttached fun att => ?_)
    split
    · exact h.raise rfl
    · rename_i hc
      exact h.readField att _ (by simpa [countTooLarge] using hc)
  | rIsAligned =>
    unfold exec execRIsAligned
    exact .onReader (h.whenAttached fun _ => h.respond (.value _))
  | rAlign =>
    unfold exec execRAlign
    exact .onReader (h.whenAttached fun att => (h.setCursor att 0 0).respond .okay)
  | rGetRef =>
    unfold exec execRGetRef
    exact .onReader (h.whenAttached fun _ => h.respond (.granting _))
  | rGetMut =>
    unfold exec execRGetMut
    refine .onReader (h.whenAttached fun _ => ?_)
    split
    · exact h.respond (.granting _)
    · exact h.raise rfl
  | rGetMutUnchecked =>
    unfold exec execRGetMutUnchecked
    exact .onReader (h.whenAttached fun _ => h.respond (.granting _))
  | rIntoInner =>
    unfold exec execRIntoInner
    exact .onReader (h.whenAttached fun _ => Reader.Held.respond (.of_detached rfl rfl rfl) (.granting _))
  | rRead len =>
    unfold exec execRRead
    have hlen : len ≤ 65535 := by simpa [Instr.wellFormed, lenFits] using wf
    refine .onReader (h.whenAttached fun att => ?_)
    refine h.srcRead wf (by simp [srcRequests, att]) (fun xs q hx => ?_) fun e q => (h.setPort q).raise rfl
    dsimp only
    split
    · exact (h.setPort q).respond (.bytes (by omega))
    · exact ((h.setPort q).setCursor att _ _).respond (.bytes (by simp; omega))
  | rDrop =>
    unfold exec execRDrop
    refine .onReader ?_
    split
    · exact Reader.Held.respond (.of_detached rfl rfl rfl) .okay
    · exact h.respond .okay
  | _ => cases hi

end Sys2Proof.Machine
end

section
/-! SUPPORT. The writer's part of the invariant: each operation on the writer keeps it. -/

namespace Sys2Proof.Machine

/-! ## Only pending bits are set (10_state.md R35) -/

/-- At offset 0 nothing is pending, so the buffer is clear. -/
theorem Writer.PendingOnly.buf_eq_zero {B : Endian} {w : Writer} (h : w.PendingOnly B) (ho : w.off = 0) :
    w.buf = 0 := by
  refine BitVec.eq_of_getLsbD_eq fun p hp => ?_
  have hbit := fun i hi => h i (by simp [ho]) hi
  cases B with
  | msbFirst => simpa [bitAt, pos, show 7 - (7 - p) = p by omega] using hbit (7 - p) (by omega)
  | lsbFirst => simpa [bitAt, pos] using hbit p hp

theorem advance_toNat_of_lt {o : Offset} {c : Nat} (h : o.toNat + c < 8) : (advance o c).toNat = o.toNat + c :=
  Nat.mod_eq_of_lt h

theorem advance_toNat_of_ge {o : Offset} {c : Nat} (h : 8 ≤ o.toNat + c) (hc : c ≤ 8) :
    (advance o c).toNat = o.toNat + c - 8 := by
  have ho := o.isLt
  have e : (advance o c).toNat = (o.toNat + c) % 8 := rfl
  omega

/-- R174: a bit laid at the offset of a writer leaves the bits after it clear. -/
theorem Writer.PendingOnly.deposit_bit {B : Endian} {w : Writer} (h : w.PendingOnly B) (b : Bool)
    (ho : w.off.toNat ≠ 7) :
    (w.setCursor (advance w.off 1) (w.buf ||| shl8 (bitByte b) (pos B w.off.toNat))).PendingOnly B := by
  intro i hi h8
  have hlt := w.off.isLt
  simp only [setCursor_off, setCursor_buf, advance_toNat_of_lt (show w.off.toNat + 1 < 8 by omega)] at hi ⊢
  rw [bitAt_or, h i (by omega) h8, bitAt_shl8_bitByte_of_ne B b hlt h8 (by omega)]
  rfl

/-- R175: a field that fits into the partial byte leaves the bits after it clear. -/
theorem Writer.PendingOnly.deposit_field {B : Endian} {w : Writer} (h : w.PendingOnly B) (bits : Byte) {c : Nat}
    (hc : w.off.toNat + c < 8) :
    (w.setCursor (advance w.off c) (w.buf ||| shiftTowardLsb B (place B bits c) w.off.toNat)).PendingOnly B := by
  intro i hi h8
  simp only [setCursor_off, setCursor_buf, advance_toNat_of_lt hc] at hi ⊢
  rw [bitAt_or, h i (by omega) h8, bitAt_shiftTowardLsb B _ _ h8, bitAt_place_of_le B bits (by omega) (by omega)]
  simp

/-- R175: what a field leaves over for the next byte is its pending bits and no others. -/
theorem Writer.PendingOnly.carry_field (w : Writer) (B : Endian) (bits : Byte) {c : Nat} (hc : c ≤ 8)
    (h : 8 ≤ w.off.toNat + c) :
    (w.setCursor (advance w.off c) (shiftTowardMsb B (place B bits c) (8 - w.off.toNat))).PendingOnly B := by
  intro i hi h8
  simp only [setCursor_off, setCursor_buf, advance_toNat_of_ge h hc] at hi ⊢
  rw [bitAt_shiftTowardMsb B _ _ h8, Bool.and_eq_false_imp]
  intro hin
  exact bitAt_place_of_le B bits (by omega) (of_decide_eq_true hin)

/-- R182: the last bits of a data byte are pending, and no others. -/
theorem Writer.PendingOnly.tail (w : Writer) (B : Endian) (d : Byte) :
    (w.setCursor w.off (wtail B d w.off.toNat)).PendingOnly B := by
  intro i hi h8
  have hlt : ¬ i + (8 - w.off.toNat) < 8 := by
    have := w.off.isLt
    simp only [setCursor_off] at hi
    omega
  simp [wtail, bitAt_shiftTowardMsb B _ _ h8, hlt]

theorem Writer.PendingOnly.clear (w : Writer) (B : Endian) : (w.setCursor 0 0).PendingOnly B :=
  fun i _ _ => bitAt_zero B i

/-- R173: the capacity that a `W_NEW` with a word of its own selects is positive. -/
theorem capacityOf_ne_zero {len : Nat} (h : len ≤ 65535) : capacityOf len ≠ 0 := by
  unfold capacityOf
  split
  · decide
  · rename_i hpos
    intro e
    have := congrArg BitVec.toNat e
    simp at this
    omega

/-! ## The writer's part of the invariant -/

/-- What the invariant says of the writer's registers, whatever stands on its channels. -/
structure Writer.Held (p : Params) (w : Writer) : Prop where
  pending : w.PendingOnly p.writerEndian
  capacity : w.cap ≠ 0
  detached : w.DetachedClear
  released : w.ReleasedDetached

/-- What the invariant says of the writer. -/
structure Writer.Inv (p : Params) (w : Writer) : Prop extends w.Held p where
  response : w.ResponseLegal
  waits : w.WaitLegal p
  frame : w.FrameLegal

/-- How a command ends while the bytes `xs` stand on the data-in channel: its registers are well kept, it has given a
legal response or waits for a request of its own on the port, and the channel is as it was. -/
structure Writer.Ends (p : Params) (i : Instr) (xs : List Byte) (w : Writer) : Prop extends w.Held p where
  response : w.ResponseLegal
  waits : w.WaitLegal p
  /-- What the writer waits for is this command's, and not data bytes. -/
  own : ∀ j q, w.rsp = .waiting j q → j = .command i ∧ ∀ len, q ≠ .dataIn len
  channel : w.dataIn = xs

section
variable {p : Params} {w : Writer} {i : Instr} {xs : List Byte}

namespace Writer.Held

theorem setPort (h : w.Held p) (q : SnkPort) : (w.setPort q).Held p := ⟨h.pending, h.capacity, h.detached, h.released⟩

theorem setDataIn (h : w.Held p) (ys : List Byte) : (w.setDataIn ys).Held p :=
  ⟨h.pending, h.capacity, h.detached, h.released⟩

/-- The cursor of an attached writer is free, but for the bits that are not pending. -/
theorem setCursor (h : w.Held p) (att : w.attached = true) {o : Offset} {b : Byte}
    (hp : (w.setCursor o b).PendingOnly p.writerEndian) : (w.setCursor o b).Held p :=
  ⟨hp, h.capacity, fun hd => absurd (att.symm.trans hd) (by decide), h.released⟩

theorem of_attached (hp : w.PendingOnly p.writerEndian) (hc : w.cap ≠ 0) (ha : w.attached = true)
    (hr : w.released = false) : w.Held p :=
  ⟨hp, hc, fun hd => by simp [ha] at hd, fun hrel => by simp [hr] at hrel⟩

/-- A detached writer with a clear cursor is well kept, released or not. -/
theorem of_detached (hc : w.cap ≠ 0) (hd : w.attached = false) (ho : w.off = 0) (hb : w.buf = 0) : w.Held p :=
  ⟨fun i _ _ => by rw [hb]; exact bitAt_zero _ i, hc, fun _ => ⟨ho, hb⟩, fun _ => hd⟩

theorem respond (h : w.Held p) (hx : w.dataIn = xs) {a : Response} (ha : a.OfWriter) : (w.respond a).Ends p i xs where
  toHeld := ⟨h.pending, h.capacity, h.detached, h.released⟩
  response := fun _ e => by cases e; exact ha
  waits := nofun
  own := nofun
  channel := hx

/-- The command waits for a request of its own on the port. -/
theorem await (h : w.Held p) (hx : w.dataIn = xs) {q : Request} (hq : ∀ len, q ≠ .dataIn len)
    (legal : (w.await (.command i) q).WaitLegal p) : (w.await (.command i) q).Ends p i xs where
  toHeld := ⟨h.pending, h.capacity, h.detached, h.released⟩
  response := nofun
  waits := legal
  own := fun _ _ e => by cases e; exact ⟨rfl, hq⟩
  channel := hx

theorem raise (h : w.Held p) (hx : w.dataIn = xs) {st : Status} (hst : st.ofWriter = true) :
    (w.raise st).Ends p i xs :=
  h.respond hx (.failure hst)

/-- The attachment check keeps the end of a command if what it lets through does. -/
theorem whenAttached (h : w.Held p) (hx : w.dataIn = xs) {k : Writer} (hk : w.attached = true → k.Ends p i xs) :
    (w.whenAttached k).Ends p i xs := by
  obtain ⟨att, e⟩ | ⟨-, e⟩ := w.whenAttached_cases k <;> rw [e]
  · exact hk att
  · exact h.raise hx rfl

/-- The first write of the command, and what goes on with each answer to it. -/
theorem snkWrite (h : w.Held p) (hx : w.dataIn = xs) (wf : i.wellFormed = true) {offer : List Byte}
    (first : w.firstOffer p i = some offer) {k : SnkAnswer → Writer → Writer}
    (ack : ∀ m q, m ≤ offer.length → (k (.ack m) (w.setPort q)).Ends p i xs)
    (err : ∀ e q, (k (.err e) (w.setPort q)).Ends p i xs) : (w.snkWrite i offer k).Ends p i xs := by
  obtain ⟨-, e⟩ | ⟨a, ha, e⟩ := w.snkWrite_cases i offer k <;> rw [e]
  · exact (h.setPort w.port.silent).await hx nofun fun _ _ e => by cases e; exact ⟨wf, i, rfl, first⟩
  · obtain ⟨m, rfl, hm⟩ | ⟨_, rfl, -⟩ := SnkPort.answer_cases ha
    · exact ack m _ hm
    · exact err _ _

/-- The flush request of `W_FLUSH`, once its cursor is clear. -/
theorem snkFlush (h : w.Held p) (hx : w.dataIn = xs) (att : w.attached = true) (ho : w.off = 0)
    {k : FlushAnswer → Writer → Writer} (hk : ∀ a q, (k a (w.setPort q)).Ends p .wFlush xs) :
    (w.snkFlush .wFlush k).Ends p .wFlush xs := by
  obtain ⟨-, e⟩ | ⟨a, -, e⟩ := w.snkFlush_cases .wFlush k <;> rw [e]
  · exact (h.setPort w.port.silent).await hx nofun fun _ _ e => by cases e; exact ⟨rfl, rfl, att, ho⟩
  · exact hk a _

/-- The single-byte write of the command, and what goes on once the sink has taken the byte. -/
theorem sinkByte (h : w.Held p) (hx : w.dataIn = xs) (wf : i.wellFormed = true) {b : Byte}
    (first : w.firstOffer p i = some [b]) {failed : IoCause → Status}
    (hst : ∀ c, c ≠ .unexpectedEof → (failed c).ofWriter = true) {k : Writer → Writer}
    (hk : ∀ q, (k (w.setPort q)).Ends p i xs) : (w.sinkByte i b failed k).Ends p i xs := by
  refine h.snkWrite hx wf first (fun m q _ => ?_) fun e q => (h.setPort q).raise hx (hst _ nofun)
  cases m with
  | zero => exact (h.setPort q).raise hx (hst _ nofun)
  | succ m => exact hk q

/-- The partial byte of a command that flushes it first, and what goes on with a clear cursor. -/
theorem flushPartial (h : w.Held p) (hx : w.dataIn = xs) (wf : i.wellFormed = true) (att : w.attached = true)
    (first : w.firstOffer p i = w.partialOffer) {failed : IoCause → Status}
    (hst : ∀ c, c ≠ .unexpectedEof → (failed c).ofWriter = true) {k : Writer → Writer}
    (hk : ∀ v : Writer, v.Held p → v.dataIn = xs → v.attached = true → v.off = 0 → v.buf = 0 → (k v).Ends p i xs) :
    (w.flushPartial i failed k).Ends p i xs := by
  obtain ⟨ho, e⟩ | ⟨ho, e⟩ := w.flushPartial_cases i failed k <;> rw [e]
  · exact hk w h hx att ho (h.pending.buf_eq_zero ho)
  · refine h.sinkByte hx wf (by simpa [Writer.partialOffer, att] using first.trans (if_pos ⟨att, ho⟩)) hst fun q => ?_
    exact hk _ ((h.setPort q).setCursor att (.clear _ _)) hx att rfl rfl

end Writer.Held

end

end Sys2Proof.Machine
end

section
/-! SUPPORT. The writer's part of the invariant: each writer command and each illegal word keeps it. -/

namespace Sys2Proof.Machine

section
variable {p : Params} {w : Writer} {xs : List Byte}

theorem Status.ioError_ofWriter {c : IoCause} (h : c ≠ .unexpectedEof) : (Status.ioError c).ofWriter = true := by
  cases c with
  | unexpectedEof => exact absurd rfl h
  | _ => rfl

theorem Status.flushOnUnwrap_ofWriter {c : IoCause} (h : c ≠ .unexpectedEof) :
    (Status.flushOnUnwrap c).ofWriter = true := by
  cases c with
  | unexpectedEof => exact absurd rfl h
  | _ => rfl

/-- The body of `W_WRITE_BITS` (R175). -/
theorem Writer.Held.writeField (h : w.Held p) (hx : w.dataIn = xs) (att : w.attached = true) (bits : Byte) {c : Nat}
    (hc : c ≤ 8) : (w.writeField p.writerEndian bits c).Ends p (.wWriteBits bits c) xs := by
  unfold Writer.writeField
  dsimp only
  split
  · rename_i hfull
    have wf : (Instr.wWriteBits bits c).wellFormed = true := decide_eq_true (hc.trans (by decide))
    refine h.sinkByte hx wf (if_pos ⟨att, hc, hfull⟩) (fun _ => Status.ioError_ofWriter) fun q => ?_
    exact ((h.setPort q).setCursor att (Writer.PendingOnly.carry_field w _ bits hc hfull)).respond hx .okay
  · exact (h.setCursor att (h.pending.deposit_field bits (by omega))).respond hx .okay

/-- The body of `W_WRITE` on the first `len` bytes of the channel (R182). -/
theorem Writer.Held.writeBytes (h : w.Held p) (hx : w.dataIn = xs) (att : w.attached = true) {len : Nat}
    (wf : (Instr.wWrite len).wellFormed = true) :
    (w.writeBytes p.stagingMode p.writerEndian len (w.dataIn.take len)).Ends p (.wWrite len) xs := by
  have hlen : len ≤ 65535 := by simpa [Instr.wellFormed, lenFits] using wf
  have htake : (w.dataIn.take len).length ≤ len := List.length_take_le _ _
  unfold Writer.writeBytes
  split
  · rename_i hal
    have first : w.firstOffer p (.wWrite len) = some (w.dataIn.take len) := by
      simp [Writer.firstOffer, att, beq_iff_eq.mp hal]
    exact h.snkWrite hx wf first (fun m q hm => (h.setPort q).respond hx (.count (by omega)))
      fun e q => (h.setPort q).raise hx rfl
  · rename_i hal
    have ho : w.off ≠ 0 := by simpa [Writer.aligned] using hal
    have first : w.firstOffer p (.wWrite len) = some (stageShifted p.writerEndian w.off.toNat w.buf
        ((w.dataIn.take len).take (stagedCount p.stagingMode w.cap (w.dataIn.take len).length))) :=
      (if_pos att).trans (congrArg some (if_neg ho))
    refine h.snkWrite hx wf first (fun m q hm => ?_) fun e q => (h.setPort q).raise hx rfl
    cases m with
    | zero => exact (h.setPort q).respond hx (.count (by omega))
    | succ j =>
      have hcount : j + 1 ≤ len := by simp at hm; omega
      exact ((h.setPort q).setCursor att (Writer.PendingOnly.tail _ _ _)).respond hx (.count (by omega))

/-- What the channel holds while nothing is outstanding. -/
theorem Writer.frameLegal_of_answered (h : w.rsp.isWaiting = false) : w.FrameLegal ↔ w.dataIn = [] := by
  unfold Writer.FrameLegal
  cases e : w.rsp with
  | waiting j q => simp [e] at h
  | _ => rfl

/-- What the channel holds while the writer waits for the rest of a frame. -/
theorem Writer.frameLegal_of_dataIn {j : Job} {len : Nat} (h : w.rsp = .waiting j (.dataIn len)) :
    w.FrameLegal ↔ w.dataIn.length < len := by
  unfold Writer.FrameLegal
  rw [h]

/-- What the channel holds while a command waits for the sink: its whole frame. -/
theorem Writer.frameLegal_of_request {i : Instr} {q : Request} (h : w.rsp = .waiting (.command i) q)
    (hq : ∀ len, q ≠ .dataIn len) : w.FrameLegal ↔ w.dataIn.length = (Job.command i).frameLength := by
  unfold Writer.FrameLegal
  rw [h]
  cases q with
  | dataIn len => exact absurd rfl (hq len)
  | _ => cases i with
    | wWrite len => rfl
    | _ => exact List.length_eq_zero_iff.symm

namespace Writer.Ends
variable {i : Instr}

/-- A command meets the whole invariant where it ends, if its frame stands on the channel while it waits and has left it
with its response. -/
theorem inv (h : w.Ends p i xs) (hwait : w.rsp.isWaiting = true → xs.length = (Job.command i).frameLength)
    (hans : w.rsp.isWaiting = false → xs = []) : w.Inv p where
  toHeld := h.toHeld
  response := h.response
  waits := h.waits
  frame := by
    cases e : w.rsp with
    | waiting j q =>
      obtain ⟨rfl, hq⟩ := h.own _ _ e
      rw [frameLegal_of_request e hq, h.channel]
      exact hwait (by rw [e]; rfl)
    | _ =>
      rw [frameLegal_of_answered (by rw [e]; rfl), h.channel]
      exact hans (by rw [e]; rfl)

/-- A command that frames no bytes. -/
theorem inv_of_noFrame (h : w.Ends p i []) (hi : (Job.command i).frameLength = 0) : w.Inv p :=
  h.inv (fun _ => hi.symm) fun _ => rfl

/-- Once a command is answered, nothing depends on the channel any more. -/
theorem setDataIn (h : w.Ends p i xs) (hw : w.rsp.isWaiting = false) (ys : List Byte) :
    (w.setDataIn ys).Ends p i ys where
  toHeld := h.toHeld.setDataIn ys
  response := h.response
  waits := fun j q e => by simp [show w.rsp = _ from e] at hw
  own := h.own
  channel := rfl

/-- A command whose whole frame is on the channel: it stays while the sink is silent and leaves with the response. -/
theorem dropFrame_inv (h : w.Ends p i xs) (hlen : xs.length = (Job.command i).frameLength) :
    (w.dropFrame (Job.command i).frameLength).Inv p := by
  obtain ⟨hw, e⟩ | ⟨hw, e⟩ := w.dropFrame_cases (Job.command i).frameLength <;> rw [e]
  · exact h.inv (fun _ => hlen) fun hn => by simp [hw] at hn
  · have hnil : w.dataIn.drop (Job.command i).frameLength = [] := by rw [h.channel, ← hlen, List.drop_length]
    rw [hnil]
    exact (h.setDataIn hw []).inv (fun hn => by simp [hw] at hn) fun _ => rfl

end Writer.Ends

/-- A job that a word on the writer's command port can give (30_encoding.md R80, R88). -/
def Job.OfWriter : Job → Prop
  | .command i => i.wellFormed = true ∧ i.engine = .writer
  | .illegal len => len ≤ 65535

/-- A writer that waits for its frame meets the invariant. -/
theorem Writer.Held.await_dataIn (h : w.Held p) {j : Job} {len : Nat} (hj : j.OfWriter)
    (hlen : j = .command (.wWrite len) ∨ j = .illegal len) (hw : w.dataIn.length < len) :
    (w.await j (.dataIn len)).Inv p where
  toHeld := ⟨h.pending, h.capacity, h.detached, h.released⟩
  response := nofun
  waits := fun _ _ e => by
    cases e
    refine ⟨?_, hlen⟩
    cases j with
    | command i => exact hj.1
    | illegal len => exact hj
  frame := hw

/-! ## The writer inside the machine -/

/-- The outcome `x` replaces the writer of `s` by one that meets the invariant, and nothing else. -/
def State.WriterEnds (s : State) (x : Result State) : Prop :=
  ∃ w : Writer, w.Inv s.params ∧ x = .next (s.setWriter w)

theorem State.WriterEnds.onWriter {s : State} {f : Params → Writer → Writer} (h : (f s.params s.writer).Inv s.params) :
    s.WriterEnds (s.onWriter f) := ⟨_, h, rfl⟩

/-- An operation that ends as a command without a frame, on an empty channel. -/
theorem State.WriterEnds.of_ends {s : State} {f : Params → Writer → Writer} (i : Instr)
    (h : (f s.params s.writer).Ends s.params i []) (hi : (Job.command i).frameLength = 0) :
    s.WriterEnds (s.onWriter f) := .onWriter (h.inv_of_noFrame hi)

/-- `W_WRITE` with no more than its frame on the channel (R182). -/
theorem execWWrite_writerEnds {s : State} (h : s.writer.Held s.params) {len : Nat}
    (wf : (Instr.wWrite len).wellFormed = true) (hx : s.writer.dataIn.length ≤ len) :
    s.WriterEnds (execWWrite len s) := by
  unfold execWWrite
  refine .onWriter ?_
  obtain ⟨hall, e⟩ | ⟨hmore, e⟩ := s.writer.takeData_cases (.command (.wWrite len)) len fun d =>
    s.writer.whenAttached (s.writer.writeBytes s.params.stagingMode s.params.writerEndian len d)
  · rw [e]
    exact (h.whenAttached rfl fun att => h.writeBytes rfl att wf).dropFrame_inv (Nat.le_antisymm hx hall)
  · rw [e]
    exact h.await_dataIn ⟨wf, rfl⟩ (.inl rfl) hmore

/-- `W_NEW` on an empty channel (R173). -/
theorem execWNew_writerEnds {s : State} (h : s.writer.Held s.params) (hx : s.writer.dataIn = []) {len : Nat}
    (wf : (Instr.wNew len).wellFormed = true) : s.WriterEnds (execWNew len s) := by
  have hcap : capacityOf len ≠ 0 := capacityOf_ne_zero (by simpa [Instr.wellFormed, lenFits] using wf)
  have held : ((((s.writer.setAttached true).setCursor 0 0).setCap (capacityOf len)).setReleased false).Held s.params :=
    .of_attached (fun i _ _ => bitAt_zero _ i) hcap rfl rfl
  unfold execWNew
  refine .of_ends (.wNew len) ?_ rfl
  split
  · exact h.raise hx rfl
  · exact held.respond hx .okay

/-- `W_WRITE_BIT` on an empty channel (R174). -/
theorem execWWriteBit_writerEnds {s : State} (h : s.writer.Held s.params) (hx : s.writer.dataIn = []) (bit : Bool) :
    s.WriterEnds (execWWriteBit bit s) := by
  unfold execWWriteBit
  refine .of_ends (.wWriteBit bit) (h.whenAttached hx fun att => ?_) rfl
  dsimp only
  split
  · rename_i ho
    have first : s.writer.firstOffer s.params (.wWriteBit bit) =
        some [s.writer.buf ||| shl8 (bitByte bit) (pos s.params.writerEndian s.writer.off.toNat)] := by
      rw [ho]
      exact if_pos ⟨att, BitVec.eq_of_toNat_eq ho⟩
    exact h.sinkByte hx rfl first (fun _ => Status.ioError_ofWriter) fun q =>
      ((h.setPort q).setCursor att fun i _ _ => bitAt_zero _ i).respond hx .okay
  · rename_i ho
    exact (h.setCursor att (h.pending.deposit_bit bit ho)).respond hx .okay

/-- `W_DROP` on an empty channel (R184). -/
theorem execWDrop_writerEnds {s : State} (h : s.writer.Held s.params) (hx : s.writer.dataIn = []) :
    s.WriterEnds (execWDrop s) := by
  have held (q : SnkPort) : (((s.writer.setPort q).setAttached false).setCursor 0 0).Held s.params :=
    .of_detached h.capacity rfl rfl rfl
  unfold execWDrop
  refine .of_ends .wDrop ?_ rfl
  split
  · rename_i att
    split
    · exact (held s.writer.port).respond hx .okay
    · rename_i hal
      have first : s.writer.firstOffer s.params .wDrop = some [s.writer.buf] :=
        if_pos ⟨att, by simpa [Writer.aligned] using hal⟩
      exact h.snkWrite hx rfl first (fun _ q _ => (held q).respond hx .okay) fun _ q => (held q).respond hx .okay
  · exact h.respond hx .okay

/-- Every writer command, with no more than its frame on the channel, leaves the writer with the invariant, whatever the
response port showed before it. -/
theorem exec_writerEnds {s : State} (h : s.writer.Held s.params) {i : Instr} (wf : i.wellFormed = true)
    (hi : i.engine = .writer) (hx : s.writer.dataIn.length ≤ (Job.command i).frameLength) :
    s.WriterEnds (exec i s) := by
  have hnil (h0 : (Job.command i).frameLength = 0) : s.writer.dataIn = [] :=
    List.length_eq_zero_iff.mp (Nat.le_zero.mp (h0 ▸ hx))
  cases i with
  | wNew len => exact execWNew_writerEnds h (hnil rfl) wf
  | wWriteBit bit => exact execWWriteBit_writerEnds h (hnil rfl) bit
  | wWriteBits bits c =>
    unfold exec execWWriteBits
    refine .of_ends (.wWriteBits bits c) (h.whenAttached (hnil rfl) fun att => ?_) rfl
    split
    · exact h.raise (hnil rfl) rfl
    · rename_i hc
      exact h.writeField (hnil rfl) att bits (by simpa [countTooLarge] using hc)
  | wIsAligned =>
    unfold exec execWIsAligned
    exact .of_ends .wIsAligned (h.whenAttached (hnil rfl) fun _ => h.respond (hnil rfl) (.value _)) rfl
  | wAlign =>
    unfold exec execWAlign
    refine .of_ends .wAlign (h.whenAttached (hnil rfl) fun att => ?_) rfl
    exact h.flushPartial (hnil rfl) rfl att rfl (fun _ => Status.ioError_ofWriter) fun v hv hx _ _ _ =>
      hv.respond hx .okay
  | wGetRef =>
    unfold exec execWGetRef
    exact .of_ends .wGetRef (h.whenAttached (hnil rfl) fun _ => h.respond (hnil rfl) (.granting _)) rfl
  | wGetMut =>
    unfold exec execWGetMut
    refine .of_ends .wGetMut (h.whenAttached (hnil rfl) fun _ => ?_) rfl
    split
    · exact h.respond (hnil rfl) (.granting _)
    · exact h.raise (hnil rfl) rfl
  | wGetMutUnchecked =>
    unfold exec execWGetMutUnchecked
    exact .of_ends .wGetMutUnchecked (h.whenAttached (hnil rfl) fun _ => h.respond (hnil rfl) (.granting _)) rfl
  | wIntoInner =>
    unfold exec execWIntoInner
    refine .of_ends .wIntoInner (h.whenAttached (hnil rfl) fun att => ?_) rfl
    refine h.flushPartial (hnil rfl) rfl att rfl (fun _ => Status.flushOnUnwrap_ofWriter) fun v hv hx _ ho hb => ?_
    have held : ((v.setAttached false).setReleased true).Held s.params := .of_detached hv.capacity rfl ho hb
    exact held.respond hx (.granting _)
  | wWrite len => exact execWWrite_writerEnds h wf hx
  | wFlush =>
    unfold exec execWFlush
    refine .of_ends .wFlush (h.whenAttached (hnil rfl) fun att => ?_) rfl
    refine h.flushPartial (hnil rfl) rfl att rfl (fun _ => Status.ioError_ofWriter) fun v hv hx hatt ho _ => ?_
    refine hv.snkFlush hx hatt ho fun a q => ?_
    cases a with
    | ok => exact (hv.setPort q).respond hx .okay
    | err e => exact (hv.setPort q).raise hx rfl
  | wDrop => exact execWDrop_writerEnds h (hnil rfl)
  | _ => cases hi

/-- An illegal word with no more than its frame on the channel, which it leaves as a `W_WRITE` of that length does
(30_encoding.md R88). -/
theorem rejectFrame_writerEnds {s : State} (h : s.writer.Held s.params) {len : Nat} (hlen : len ≤ 65535)
    (hx : s.writer.dataIn.length ≤ len) : s.WriterEnds (rejectFrame len s) := by
  refine .onWriter ?_
  obtain ⟨hall, e⟩ | ⟨hmore, e⟩ := s.writer.takeData_cases (.illegal len) len fun _ => s.writer.raise .illegalCommand
  · rw [e]
    exact (h.raise (i := .wWrite len) rfl rfl).dropFrame_inv (Nat.le_antisymm hx hall)
  · rw [e]
    exact h.await_dataIn hlen (.inr rfl) hmore

end

end Sys2Proof.Machine
end

section
/-! SUPPORT. The invariant of the machine: each move keeps it, so each step does, and it holds at power-on. -/

namespace Sys2Proof.Machine

/-! ## Jobs -/

/-- The job of a word fits the writer and its frame is the one framed behind the word (30_encoding.md R87, R88). -/
theorem writerJob_ofWriter (w : Word) : (writerJob w).OfWriter ∧ (writerJob w).frameLength = frameLength w := by
  unfold writerJob
  split
  · rename_i i hdec
    obtain ⟨hu, -, hrow⟩ := decode_writer_eq_ok.mp hdec
    obtain ⟨wf, hi, hframe⟩ := decodeWriterRow_wellFormed hrow
    exact ⟨⟨wf, hi⟩, by simp [hframe, frameLength, hu]⟩
  · exact ⟨frameLength_le w, rfl⟩

/-- Every writer job, with no more than its frame on the channel, leaves the writer with the invariant. -/
theorem runJob_writerEnds {s : State} (h : s.writer.Held s.params) {j : Job} (hj : j.OfWriter)
    (hx : s.writer.dataIn.length ≤ j.frameLength) : s.WriterEnds (runJob j s) := by
  cases j with
  | command i => exact exec_writerEnds h hj.1 hj.2 hx
  | illegal len => exact rejectFrame_writerEnds h hj hx

/-- Only a reader command makes a request on the source port (20_memory.md R51). -/
theorem engine_of_srcRequests {r : Reader} {i : Instr} {len : Nat} (h : len ∈ srcRequests r i) :
    i.engine = .reader := by
  cases i <;> simp [srcRequests, Instr.engine] at h ⊢

/-- Only a writer command makes an offer to the sink (20_memory.md R54). -/
theorem engine_of_firstOffer {p : Params} {w : Writer} {i : Instr} {xs : List Byte} (h : w.firstOffer p i = some xs) :
    i.engine = .writer := by
  cases i <;> simp [Writer.firstOffer, Instr.engine] at h ⊢

/-- The job of a waiting writer fits it, with no more than its frame on the channel. -/
theorem Writer.Inv.ofWriter_of_waiting {p : Params} {w : Writer} (h : w.Inv p) {j : Job} {q : Request}
    (e : w.rsp = .waiting j q) : j.OfWriter ∧ w.dataIn.length ≤ j.frameLength := by
  obtain ⟨hj, hq⟩ := h.waits _ _ e
  cases q with
  | srcRead _ => exact hq.elim
  | snkWrite xs =>
    obtain ⟨i, rfl, first⟩ := hq
    exact ⟨⟨hj, engine_of_firstOffer first⟩, ((frameLegal_of_request e nofun).mp h.frame).le⟩
  | snkFlush =>
    obtain ⟨rfl, -, -⟩ := hq
    exact ⟨⟨hj, rfl⟩, ((frameLegal_of_request e nofun).mp h.frame).le⟩
  | dataIn len =>
    have hshort := ((frameLegal_of_dataIn e).mp h.frame).le
    obtain rfl | rfl := hq
    · exact ⟨⟨hj, rfl⟩, hshort⟩
    · exact ⟨hj, hshort⟩

/-! ## The machine -/

/-- The invariant of the machine is that of its two engines. -/
theorem State.inv_iff {s : State} : s.Inv ↔ s.reader.Inv ∧ s.writer.Inv s.params :=
  ⟨fun ⟨a, b, c, d, e, f, g, h, i, j, k⟩ => ⟨⟨⟨c, g⟩, e, i⟩, ⟨⟨a, b, d, h⟩, f, j, k⟩⟩,
   fun ⟨⟨⟨c, g⟩, e, i⟩, ⟨⟨a, b, d, h⟩, f, j, k⟩⟩ => ⟨a, b, c, d, e, f, g, h, i, j, k⟩⟩

theorem State.Inv.setHost {s : State} (h : s.Inv) {ms : List HostMove} : (s.setHost ms).Inv := by
  obtain ⟨hr, hw⟩ := inv_iff.mp h
  exact inv_iff.mpr ⟨hr, hw⟩

/-- The outcome `x` is a next state that meets the invariant. -/
def KeepsInv (x : Result State) : Prop := ∃ t : State, t.Inv ∧ x = .next t

theorem KeepsInv.next {s : State} (h : s.Inv) : KeepsInv (.next s) := ⟨s, h, rfl⟩

theorem State.ReaderEnds.keepsInv {s : State} {x : Result State} (h : s.ReaderEnds x) (hw : s.writer.Inv s.params) :
    KeepsInv x := by
  obtain ⟨r, hr, e⟩ := h
  exact ⟨_, (State.inv_iff (s := s.setReader r)).mpr ⟨hr, hw⟩, e⟩

theorem State.WriterEnds.keepsInv {s : State} {x : Result State} (h : s.WriterEnds x) (hr : s.reader.Inv) :
    KeepsInv x := by
  obtain ⟨w, hw, e⟩ := h
  exact ⟨_, (State.inv_iff (s := s.setWriter w)).mpr ⟨hr, hw⟩, e⟩

/-- A move that is not made keeps the invariant, so one that may be made has to keep it only when it is made. -/
theorem KeepsInv.whenMove {ok : Bool} {s : State} {k : Result State} (h : s.Inv) (hk : ok = true → KeepsInv k) :
    KeepsInv (whenMove ok s k) := by
  obtain ⟨hok, e⟩ | ⟨-, e⟩ := whenMove_cases ok s k <;> rw [e]
  · exact hk hok
  · exact .next h

/-! ## Ports, wiring and power-on -/

theorem Reader.Inv.setPort {r : Reader} (h : r.Inv) (q : SrcPort) : (r.setPort q).Inv :=
  ⟨h.toHeld.setPort q, h.response, h.waits⟩

theorem Reader.Inv.setReleased_false {r : Reader} (h : r.Inv) : (r.setReleased false).Inv :=
  ⟨⟨h.detached, nofun⟩, h.response, h.waits⟩

theorem Reader.Inv.powerOn (r : Reader) : r.powerOn.Inv :=
  ⟨.of_detached rfl rfl rfl, nofun, nofun⟩

theorem Writer.Inv.setPort {p : Params} {w : Writer} (h : w.Inv p) (q : SnkPort) : (w.setPort q).Inv p :=
  ⟨h.toHeld.setPort q, h.response, h.waits, h.frame⟩

theorem Writer.Inv.setReleased_false {p : Params} {w : Writer} (h : w.Inv p) : (w.setReleased false).Inv p :=
  ⟨⟨h.pending, h.capacity, h.detached, nofun⟩, h.response, h.waits, h.frame⟩

theorem Writer.Inv.powerOn (p : Params) (w : Writer) : w.powerOn.Inv p :=
  ⟨.of_detached (show BitVec.ofNat 16 Config.defaultCapacity ≠ 0 by decide) rfl rfl rfl, nofun, nofun, rfl⟩

section
variable {s : State} (h : s.Inv)
include h

theorem acceptReaderWord_keepsInv (w : Word) : KeepsInv (acceptReaderWord w s) := by
  obtain ⟨hr, hw⟩ := State.inv_iff.mp h
  unfold acceptReaderWord
  split
  · rename_i i hdec
    obtain ⟨-, -, hrow⟩ := decode_reader_eq_ok.mp hdec
    obtain ⟨wf, hi⟩ := decodeReaderRow_wellFormed hrow
    exact (exec_readerEnds hr.toHeld wf hi).keepsInv hw
  · exact (State.ReaderEnds.onReader (hr.toHeld.raise rfl)).keepsInv hw

/-- A word on the command port of a writer that waits for nothing, with no more bytes than it frames. -/
theorem writerCommand_keepsInv {w : Word} {data : List Byte} (hidle : s.writer.rsp.isWaiting = false)
    (hdata : data.length ≤ frameLength w) : KeepsInv (runJob (writerJob w) (s.sendData data)) := by
  obtain ⟨hr, hw⟩ := State.inv_iff.mp h
  obtain ⟨hj, hframe⟩ := writerJob_ofWriter w
  have hempty : s.writer.dataIn = [] := (Writer.frameLegal_of_answered hidle).mp hw.frame
  have hlen : (s.sendData data).writer.dataIn.length ≤ (writerJob w).frameLength := by
    simpa [hempty, hframe] using hdata
  exact (runJob_writerEnds (s := s.sendData data) (hw.toHeld.setDataIn _) hj hlen).keepsInv hr

theorem supplyData_keepsInv (xs : List Byte) : KeepsInv (supplyData xs s) := by
  obtain ⟨hr, hw⟩ := State.inv_iff.mp h
  unfold supplyData
  split
  · rename_i j len e
    refine .whenMove h fun hok => ?_
    obtain ⟨hj, -⟩ := hw.ofWriter_of_waiting e
    have hframe : j.frameLength = len := by
      obtain ⟨-, rfl | rfl⟩ := hw.waits _ _ e <;> rfl
    have hlen : (s.sendData xs).writer.dataIn.length ≤ j.frameLength := by
      simpa [hframe] using hok
    exact (runJob_writerEnds (s := s.sendData xs) (hw.toHeld.setDataIn _) hj hlen).keepsInv hr
  · exact .next h

theorem sourceAnswers_keepsInv (d : SrcDraw) : KeepsInv (sourceAnswers d s) := by
  obtain ⟨hr, hw⟩ := State.inv_iff.mp h
  unfold sourceAnswers
  split
  · rename_i j len e
    obtain ⟨i, len, rfl, wf, -, req⟩ := hr.waits _ _ e
    exact (exec_readerEnds (s := s.setReader _) (hr.toHeld.setPort _) wf (engine_of_srcRequests req)).keepsInv hw
  · exact .next h

theorem sinkAnswers_keepsInv (d : SnkDraw) : KeepsInv (sinkAnswers d s) := by
  obtain ⟨hr, hw⟩ := State.inv_iff.mp h
  have resume {j : Job} {q : Request} (e : s.writer.rsp = .waiting j q) :
      KeepsInv (runJob j (s.setWriter (s.writer.setPort (s.writer.port.decide d)))) := by
    obtain ⟨hj, hframe⟩ := hw.ofWriter_of_waiting e
    exact (runJob_writerEnds (s := s.setWriter (s.writer.setPort (s.writer.port.decide d)))
      (hw.toHeld.setPort _) hj hframe).keepsInv hr
  unfold sinkAnswers
  split
  · exact resume ‹_›
  · exact resume ‹_›
  · exact .next h

/-- Every move of the world outside keeps the invariant. -/
theorem perform_keepsInv (m : HostMove) : KeepsInv (perform m s) := by
  obtain ⟨hr, hw⟩ := State.inv_iff.mp h
  cases m with
  | readerCommand w => exact .whenMove h fun _ => acceptReaderWord_keepsInv h w
  | writerCommand w data =>
    refine .whenMove h fun hok => ?_
    obtain ⟨hidle, hdata⟩ : s.writer.rsp.isWaiting = false ∧ data.length ≤ frameLength w := by simpa using hok
    exact writerCommand_keepsInv h hidle hdata
  | writerData xs => exact supplyData_keepsInv h xs
  | sourceAnswers d => exact sourceAnswers_keepsInv h d
  | sinkAnswers d => exact sinkAnswers_keepsInv h d
  | inspectSource => exact .whenMove h fun _ => .next (State.inv_iff.mpr ⟨hr, hw⟩)
  | inspectSink => exact .whenMove h fun _ => .next (State.inv_iff.mpr ⟨hr, hw⟩)
  | consumeSource n => exact .whenMove h fun _ => .next (State.inv_iff.mpr ⟨hr.setPort _, hw⟩)
  | appendSink xs => exact .whenMove h fun _ => .next (State.inv_iff.mpr ⟨hr, hw.setPort _⟩)
  | flushSink => exact .whenMove h fun _ => .next h
  | wireSource stream draws =>
    exact .whenMove h fun _ => .next (State.inv_iff.mpr ⟨(hr.setPort _).setReleased_false, hw⟩)
  | wireSink stream draws =>
    exact .whenMove h fun _ => .next (State.inv_iff.mpr ⟨hr, (hw.setPort _).setReleased_false⟩)
  | powerOnReset => exact .next (State.inv_iff.mpr ⟨.powerOn _, .powerOn _ _⟩)

end

/-- A step is a move of the world outside, or nothing happens. -/
theorem step_keepsInv {s : State} (h : s.Inv) : KeepsInv (step s) := by
  unfold step
  split
  · exact .next h
  · rename_i m rest _
    exact perform_keepsInv (s := s.setHost rest) h.setHost m

/-- Settles O56: the invariant is that of the two engines (`State.inv_iff`), and each move of the world outside leaves
each engine as it is or with its part of the invariant (`perform_keepsInv`). -/
theorem stepKeepsInv : Obligations.StepKeepsInv := by
  intro s t h hstep
  obtain ⟨u, hu, e⟩ := step_keepsInv h
  rw [hstep] at e
  cases e
  exact hu

/-- Settles O55: a power-on state is one whose engines are as power-on leaves them. -/
theorem powerOnMeetsInv : Obligations.PowerOnMeetsInv := by
  have h (p : Params) : (State.powerOn p).Inv :=
    State.inv_iff.mpr ⟨.powerOn (State.powerOn p).reader, .powerOn p (State.powerOn p).writer⟩
  exact ⟨h _, h⟩

/-- Settles O10: the values stand in the definition of the power-on state. -/
theorem powerOnValues : Obligations.PowerOnValues :=
  ⟨fun _ => ⟨rfl, rfl, rfl, rfl, rfl, rfl, rfl, rfl, rfl, rfl⟩, _, rfl⟩

end Sys2Proof.Machine
end

section
/-! SUPPORT. A reader at offset 0 does not depend on its buffer. -/

namespace Sys2Proof.Machine

/-! ## An engine's command reaches its own engine alone (60_exceptions.md R240) -/

/-- A writer command is an operation on the writer. -/
theorem exec_eq_onWriter {i : Instr} (hi : i.engine = .writer) :
    ∃ f : Params → Writer → Writer, ∀ s : State, exec i s = s.onWriter f := by
  cases i with
  | wNew | wWriteBit | wWriteBits | wIsAligned | wAlign | wGetRef | wGetMut | wGetMutUnchecked | wIntoInner | wWrite
  | wFlush | wDrop =>
    simp only [exec, execWNew, execWWriteBit, execWWriteBits, execWIsAligned, execWAlign, execWGetRef, execWGetMut,
      execWGetMutUnchecked, execWIntoInner, execWWrite, execWFlush, execWDrop]
    exact ⟨_, fun _ => rfl⟩
  | _ => cases hi

/-! ## The dead buffer (10_state.md R24, R25) -/

/-- The reader with another buffer. -/
def Reader.withBuf (r : Reader) (b : Byte) : Reader := { r with buf := b }

@[simp] theorem Reader.withBuf_attached (r : Reader) (b : Byte) : (r.withBuf b).attached = r.attached := rfl
@[simp] theorem Reader.withBuf_aligned (r : Reader) (b : Byte) : (r.withBuf b).aligned = r.aligned := rfl
@[simp] theorem Reader.withBuf_port (r : Reader) (b : Byte) : (r.withBuf b).port = r.port := rfl

/-- `r'` is `r`, or `r` with the buffer `b` where the buffer is dead. -/
def Reader.Agrees (b : Byte) (r r' : Reader) : Prop := r' = r ∨ (r.off = 0 ∧ r' = r.withBuf b)

section
variable {b : Byte} {r : Reader}

namespace Reader.Agrees

/-- A response leaves a dead buffer dead. -/
theorem respond (ho : r.off = 0) (a : Response) : Agrees b (r.respond a) ((r.withBuf b).respond a) := .inr ⟨ho, rfl⟩

theorem whenAttached (ho : r.off = 0) {k k' : Reader} (h : Agrees b k k') :
    Agrees b (r.whenAttached k) ((r.withBuf b).whenAttached k') := by
  unfold Reader.whenAttached
  rw [Reader.withBuf_attached]
  split
  · exact h
  · exact respond ho _

/-- The same request, with the same answer to it. -/
theorem srcRead (ho : r.off = 0) (i : Instr) (len : Nat) {k k' : SrcAnswer → Reader → Reader}
    (h : ∀ a q, Agrees b (k a (r.setPort q)) (k' a ((r.withBuf b).setPort q))) :
    Agrees b (r.srcRead i len k) ((r.withBuf b).srcRead i len k') := by
  unfold Reader.srcRead
  rw [Reader.withBuf_port]
  split
  · exact .inr ⟨ho, rfl⟩
  · exact h _ _

theorem fetchByte (ho : r.off = 0) (i : Instr) {k k' : Byte → Reader → Reader}
    (h : ∀ x q, Agrees b (k x (r.setPort q)) (k' x ((r.withBuf b).setPort q))) :
    Agrees b (r.fetchByte i k) ((r.withBuf b).fetchByte i k') := by
  refine srcRead ho i 1 fun a q => ?_
  match a with
  | .data (x :: _) => exact h x q
  | .data [] => exact .inr ⟨ho, rfl⟩
  | .err e => exact .inr ⟨ho, rfl⟩

/-- At offset 0 a field is never in the partial byte, so it is taken from a fetched one. -/
theorem readField (ho : r.off = 0) (B : Endian) (c : Nat) :
    Agrees b (r.readField B c) ((r.withBuf b).readField B c) := by
  have hal : r.aligned = true := by simp [Reader.aligned, ho]
  unfold Reader.readField
  rw [Reader.withBuf_aligned, if_neg (c := r.aligned = false ∧ _) (by simp [hal]),
    if_neg (c := r.aligned = false ∧ _) (by simp [hal])]
  split
  · exact respond ho _
  · refine fetchByte ho _ fun x q => ?_
    have hw (r' : Reader) (h : r'.aligned = true) : r'.window B x = x := if_pos h
    rw [hw r hal, hw (r.withBuf b) hal]
    exact .inl rfl

end Reader.Agrees

end

/-- Two outcomes are the same next state, or next states that differ in a dead buffer. -/
def AgreeingOutcomes (b : Byte) (x y : Result State) : Prop :=
  ∃ t u : State, x = .next t ∧ y = .next u ∧
    (u = t ∨ (t.reader.off = 0 ∧ u = { t with reader := { t.reader with buf := b } }))

theorem AgreeingOutcomes.onReader {b : Byte} {s : State} {f : Params → Reader → Reader}
    (h : (f s.params s.reader).Agrees b (f s.params (s.reader.withBuf b))) :
    AgreeingOutcomes b (s.onReader f) ((s.setReader (s.reader.withBuf b)).onReader f) := by
  refine ⟨_, _, rfl, rfl, ?_⟩
  obtain h | ⟨ho, h⟩ := h
  · exact .inl (congrArg s.setReader h)
  · exact .inr ⟨ho, congrArg s.setReader h⟩

theorem exec_agreeing_of_reader {s : State} (ho : s.reader.off = 0) (b : Byte) {i : Instr} (hi : i.engine = .reader) :
    AgreeingOutcomes b (exec i s) (exec i (s.setReader (s.reader.withBuf b))) := by
  have hal : s.reader.aligned = true := by simp [Reader.aligned, ho]
  cases i with
  | rNew =>
    unfold exec execRNew
    refine .onReader ?_
    rw [Reader.withBuf_attached]
    split
    · exact .respond ho _
    · exact .inl rfl
  | rReadBit =>
    unfold exec execRReadBit
    refine .onReader (.whenAttached ho ?_)
    rw [Reader.withBuf_aligned, if_pos hal, if_pos hal]
    exact .fetchByte ho _ fun x q => .inl rfl
  | rReadBits c =>
    unfold exec execRReadBits
    refine .onReader (.whenAttached ho ?_)
    split
    · exact .respond ho _
    · exact .readField ho _ c
  | rIsAligned =>
    unfold exec execRIsAligned
    exact .onReader (.whenAttached ho (.respond ho _))
  | rAlign =>
    unfold exec execRAlign
    exact .onReader (.whenAttached ho (.inl rfl))
  | rGetRef =>
    unfold exec execRGetRef
    exact .onReader (.whenAttached ho (.respond ho _))
  | rGetMut =>
    unfold exec execRGetMut
    refine .onReader (.whenAttached ho ?_)
    rw [Reader.withBuf_aligned, if_pos hal, if_pos hal]
    exact .respond ho _
  | rGetMutUnchecked =>
    unfold exec execRGetMutUnchecked
    exact .onReader (.whenAttached ho (.respond ho _))
  | rIntoInner =>
    unfold exec execRIntoInner
    exact .onReader (.whenAttached ho (.inl rfl))
  | rRead len =>
    unfold exec execRRead
    refine .onReader (.whenAttached ho (.srcRead ho _ _ fun a q => ?_))
    cases a with
    | err e => exact .inr ⟨ho, rfl⟩
    | data xs =>
      dsimp only
      rw [Reader.withBuf_aligned, if_pos hal, if_pos hal]
      exact .inr ⟨ho, rfl⟩
  | rDrop =>
    unfold exec execRDrop
    refine .onReader ?_
    rw [Reader.withBuf_attached]
    split
    · exact .inl rfl
    · exact .respond ho _
  | _ => cases hi

/-- Settles O28: a writer command does not reach the reader, and each reader command at offset 0 fetches before it reads
the buffer. -/
theorem deadBufferIsUnobservable : Obligations.DeadBufferIsUnobservable := by
  intro i s b ho
  cases hi : i.engine with
  | reader => exact exec_agreeing_of_reader ho b hi
  | writer =>
    obtain ⟨f, hf⟩ := exec_eq_onWriter hi
    exact ⟨_, _, hf _, hf _, .inr ⟨ho, rfl⟩⟩

end Sys2Proof.Machine
end

section
/-! SUPPORT. The contracts of the source port and the sink port (20_memory.md R50 to R55). -/

namespace Sys2Proof.Machine

/-! ## The source port -/

theorem SrcPort.answer_of_deliver {p : SrcPort} {k : Nat} {ds : List SrcDraw} (h : p.draws = .deliver k :: ds)
    {len : Nat} (hk : k ≤ len) : p.answer len = some (.data (p.stream.take k)) := by
  simp [SrcPort.answer, SrcPort.draw, h, Nat.min_eq_left hk]

theorem SrcPort.answer_of_err {p : SrcPort} {e : ErrVal} {ds : List SrcDraw} (h : p.draws = .err e :: ds)
    {len : Nat} (hlen : len ≠ 0) : p.answer len = some (.err e) := by
  simp [SrcPort.answer, SrcPort.draw, h, hlen]

theorem SrcPort.draw_of_block {p : SrcPort} {ds : List SrcDraw} (h : p.draws = .block :: ds) : p.draw = .block := by
  simp [SrcPort.draw, h]

/-- Settles O16: every answer is one of `SrcPort.answer_cases`, and each draw gives the answer it stands for. -/
theorem sourcePortContract : Obligations.SourcePortContract := by
  refine ⟨fun p len a ha => ⟨p.after_log len a, ?_⟩, fun p len k ds hk _ h => SrcPort.answer_of_deliver h hk,
    fun p len e ds hlen h => SrcPort.answer_of_err h hlen.ne', fun p len ds h =>
      ⟨SrcPort.answer_eq_none.mpr (SrcPort.draw_of_block h), p.silent_stream, p.silent_log⟩⟩
  obtain ⟨xs, rfl, hlen, -⟩ | ⟨e, rfl, hlen⟩ := SrcPort.answer_cases ha
  · exact ⟨hlen, SrcPort.stream_of_data ha⟩
  · exact ⟨Nat.pos_of_ne_zero hlen, p.after_err_stream len e⟩

/-! ## The sink port -/

theorem SnkPort.answer_of_accept {p : SnkPort} {m : Nat} {ds : List SnkDraw} (h : p.draws = .accept m :: ds)
    {xs : List Byte} (hm : m ≤ xs.length) : p.answer xs = some (.ack m) := by
  simp [SnkPort.answer, SnkPort.draw, h, Nat.min_eq_left hm]

theorem SnkPort.answer_of_err {p : SnkPort} {e : ErrVal} {ds : List SnkDraw} (h : p.draws = .err e :: ds)
    {xs : List Byte} (hxs : xs ≠ []) : p.answer xs = some (.err e) := by
  simp [SnkPort.answer, SnkPort.draw, h, hxs]

theorem SnkPort.flushAnswer_of_accept {p : SnkPort} {m : Nat} {ds : List SnkDraw} (h : p.draws = .accept m :: ds) :
    p.flushAnswer = some .ok := by
  simp [SnkPort.flushAnswer, SnkPort.draw, h]

theorem SnkPort.flushAnswer_of_err {p : SnkPort} {e : ErrVal} {ds : List SnkDraw} (h : p.draws = .err e :: ds) :
    p.flushAnswer = some (.err e) := by
  simp [SnkPort.flushAnswer, SnkPort.draw, h]

theorem SnkPort.draw_of_block {p : SnkPort} {ds : List SnkDraw} (h : p.draws = .block :: ds) : p.draw = .block := by
  simp [SnkPort.draw, h]

/-- Settles O17: every answer is one of `SnkPort.answer_cases`, and each draw gives the answer it stands for. -/
theorem sinkPortContract : Obligations.SinkPortContract := by
  refine ⟨fun p xs a ha => ⟨p.after_log xs a, ?_⟩, fun p xs m ds hm h => SnkPort.answer_of_accept h hm,
    fun p xs e ds hxs h => SnkPort.answer_of_err h hxs, fun p a => ⟨p.afterFlush_stream a, p.afterFlush_log a⟩,
    fun p m ds h => SnkPort.flushAnswer_of_accept h, fun p e ds h => SnkPort.flushAnswer_of_err h, fun p xs ds h =>
      ⟨SnkPort.answer_eq_none.mpr (SnkPort.draw_of_block h), SnkPort.flushAnswer_eq_none.mpr (SnkPort.draw_of_block h),
        p.silent_stream, p.silent_log⟩⟩
  obtain ⟨m, rfl, hm⟩ | ⟨e, rfl, hxs⟩ := SnkPort.answer_cases ha
  · exact ⟨hm, p.after_ack_stream xs m⟩
  · exact ⟨hxs, p.after_err_stream xs e⟩

end Sys2Proof.Machine
end

section
/-! SUPPORT. Bytes, byte sequences and fields as bits in stream order (40_policy.md R118), and the datapath on them. -/

namespace Sys2Proof.Machine

/-! ## Bytes and byte sequences as bits -/

@[simp] theorem byteBits_length (B : Endian) (v : Byte) : (byteBits B v).length = 8 := rfl

@[simp] theorem getElem_byteBits (B : Endian) (v : Byte) (i : Nat) (h : i < (byteBits B v).length) :
    (byteBits B v)[i] = bitAt B v i := by
  simp [byteBits]

/-- A byte is known by its bits at the eight policy indices. -/
theorem eq_of_bitAt_eq {B : Endian} {u v : Byte} (h : ∀ i < 8, bitAt B u i = bitAt B v i) : u = v := by
  refine BitVec.eq_of_getLsbD_eq fun p hp => ?_
  cases B with
  | msbFirst => simpa [bitAt, pos, show 7 - (7 - p) = p by omega] using h (7 - p) (by omega)
  | lsbFirst => exact h p hp

theorem byteBits_injective (B : Endian) : Function.Injective (byteBits B) := by
  refine fun u v h => eq_of_bitAt_eq (B := B) fun i hi => ?_
  simpa using List.getElem_of_eq h (show i < (byteBits B u).length from hi)

@[simp] theorem streamBits_nil (B : Endian) : streamBits B [] = [] := rfl

@[simp] theorem streamBits_cons (B : Endian) (x : Byte) (xs : List Byte) :
    streamBits B (x :: xs) = byteBits B x ++ streamBits B xs := rfl

@[simp] theorem streamBits_append (B : Endian) (xs ys : List Byte) :
    streamBits B (xs ++ ys) = streamBits B xs ++ streamBits B ys := List.flatMap_append

@[simp] theorem streamBits_length (B : Endian) (xs : List Byte) : (streamBits B xs).length = 8 * xs.length := by
  induction xs with
  | nil => rfl
  | cons x xs ih => simp [ih]; omega

/-- A byte sequence is known by its bits. -/
theorem streamBits_injective (B : Endian) : Function.Injective (streamBits B) := by
  intro xs ys h
  induction xs generalizing ys with
  | nil => exact (List.length_eq_zero_iff.mp (by simpa [eq_comm] using congrArg List.length h)).symm
  | cons x xs ih =>
    cases ys with
    | nil => simpa using congrArg List.length h
    | cons y ys =>
      obtain ⟨hx, hxs⟩ := List.append_inj h rfl
      rw [byteBits_injective B hx, ih hxs]

/-! ## Fields as bits -/

@[simp] theorem fieldBits_length (B : Endian) (f : Byte) (c : Nat) : (fieldBits B f c).length = c := by
  simp [fieldBits]

@[simp] theorem getElem_fieldBits (B : Endian) (f : Byte) (c i : Nat) (h : i < (fieldBits B f c).length) :
    (fieldBits B f c)[i] = fieldBit B f c i := by
  simp [fieldBits]

theorem testBit_assemble_lsbFirst (bits : List Bool) (j : Nat) :
    (assemble .lsbFirst bits).testBit j = bits.getD j false := by
  induction bits generalizing j with
  | nil => simp [assemble]
  | cons b bits ih =>
    have hcons : assemble .lsbFirst (b :: bits) = Nat.bit b (assemble .lsbFirst bits) := by
      cases b with
      | false => simp [assemble, Nat.bit]
      | true => simp [assemble, Nat.bit]; omega
    cases j with
    | zero => simp [hcons]
    | succ j => simp [hcons, Nat.testBit_bit_succ, ih]

/-- The first bit is the most significant when MSB-first and the least significant when LSB-first. -/
theorem assemble_msbFirst (bits : List Bool) : assemble .msbFirst bits = assemble .lsbFirst bits.reverse := by
  simp [assemble, List.foldr_reverse, Nat.add_comm]

theorem testBit_assemble_msbFirst (bits : List Bool) (j : Nat) :
    (assemble .msbFirst bits).testBit j = (decide (j < bits.length) && bits.getD (bits.length - 1 - j) false) := by
  rw [assemble_msbFirst, testBit_assemble_lsbFirst]
  by_cases hj : j < bits.length
  · simp [hj, show bits.length - 1 - j < bits.length by omega]
  · simp [hj]

/-- The field made of at most eight bits has these bits. -/
theorem fieldBits_assemble {B : Endian} {bits : List Bool} (h : bits.length ≤ 8) :
    fieldBits B (BitVec.ofNat 8 (assemble B bits)) bits.length = bits := by
  refine List.ext_getElem (by simp) fun i hi hi' => ?_
  rw [getElem_fieldBits]
  cases B with
  | msbFirst =>
    have hback : bits.length - 1 - (bits.length - 1 - i) = i := by omega
    simp only [fieldBit, BitVec.getLsbD_ofNat, testBit_assemble_msbFirst, hback]
    simp [hi', show bits.length - 1 - i < 8 by omega, show bits.length - 1 - i < bits.length by omega]
  | lsbFirst =>
    simp only [fieldBit, BitVec.getLsbD_ofNat, testBit_assemble_lsbFirst]
    simp [hi', show i < 8 by omega]

/-! ## The datapath as bits (40_policy.md R119 to R122) -/

/-- R119: `extract` makes the field of the first `c` bits of a byte. -/
theorem extract_eq_assemble (B : Endian) (v : Byte) {c : Nat} (hc : c ≤ 8) :
    extract B v c = BitVec.ofNat 8 (assemble B ((byteBits B v).take c)) := by
  refine BitVec.eq_of_getLsbD_eq fun p hp => ?_
  have hlen : ((byteBits B v).take c).length = c := by simpa using hc
  cases B with
  | msbFirst =>
    have hext : (extract .msbFirst v c).getLsbD p = v.getLsbD (p + (8 - c)) := getLsbD_shr8 v (8 - c) p
    rw [hext, BitVec.getLsbD_ofNat, testBit_assemble_msbFirst, hlen]
    by_cases h : p < c
    · have hback : 7 - (c - 1 - p) = p + (8 - c) := by omega
      simp [h, hp, bitAt, pos, hback, show c - 1 - p < c by omega, show c - 1 - p < 8 by omega]
    · simp [h, BitVec.getLsbD_of_ge v (p + (8 - c)) (by omega)]
  | lsbFirst =>
    have hext : (extract .lsbFirst v c).getLsbD p = (shl8 v (8 - c)).getLsbD (p + (8 - c)) := getLsbD_shr8 _ _ p
    rw [hext, BitVec.getLsbD_ofNat, testBit_assemble_lsbFirst]
    by_cases h : p < c
    · rw [getLsbD_shl8 _ _ (by omega)]
      simp [h, hp, bitAt, pos]
    · rw [BitVec.getLsbD_of_ge _ (p + (8 - c)) (by omega)]
      simp [h]

/-- R116: toward the front of the stream, the first `o` bits of a byte are gone. -/
theorem take_byteBits_shiftTowardMsb (B : Endian) (v : Byte) {o c : Nat} (h : o + c ≤ 8) :
    (byteBits B (shiftTowardMsb B v o)).take c = ((byteBits B v).drop o).take c := by
  refine List.ext_getElem (by simp; omega) fun i hi _ => ?_
  have hi' : i < c := by simp at hi; omega
  have hin : i + o < 8 := by omega
  simp [bitAt_shiftTowardMsb B v o (show i < 8 by omega), hin, Nat.add_comm o i]

/-- R121: the reader window is the rest of the byte before, then the head of the byte fetched. -/
theorem byteBits_rcombine (B : Endian) (prev x : Byte) {o : Nat} (h : o ≤ 8) :
    byteBits B (rcombine B prev x o) = (byteBits B prev).drop o ++ (byteBits B x).take o := by
  refine List.ext_getElem (by simp; omega) fun i hi _ => ?_
  have hi' : i < 8 := hi
  rw [getElem_byteBits, rcombine, bitAt_or, bitAt_shiftTowardMsb B _ _ hi', bitAt_shiftTowardLsb B _ _ hi',
    List.getElem_append]
  by_cases hprev : i + o < 8
  · simp [hprev, show i < 8 - o by omega, show ¬ 8 - o ≤ i by omega, Nat.add_comm o i]
  · simp [hprev, show ¬ i < 8 - o by omega, show 8 - o ≤ i by omega]

/-- R120: `place` lays the bits of the field at the first `c` policy indices. -/
theorem bitAt_place (B : Endian) (f : Byte) {c i : Nat} (hc : c ≤ 8) (hi : i < c) :
    bitAt B (place B f c) i = fieldBit B f c i := by
  cases B with
  | msbFirst =>
    have hshift : 7 - i - (8 - c) = c - 1 - i := by omega
    simp only [bitAt, pos, place, fieldBit, getLsbD_shl8 _ _ (show 7 - i < 8 by omega), hshift, BitVec.getLsbD_and,
      getLsbD_mask c (show c - 1 - i < 8 by omega)]
    simp [show 8 - c ≤ 7 - i by omega, show c - 1 - i < c by omega]
  | lsbFirst => simp [bitAt, pos, place, fieldBit, getLsbD_mask c (show i < 8 by omega), hi]

/-- R175: a field laid behind the pending bits follows them, as far as the byte goes. -/
theorem Writer.PendingOnly.take_byteBits_deposit {B : Endian} {w : Writer} (h : w.PendingOnly B) (f : Byte) {c : Nat}
    (hc : c ≤ 8) :
    (byteBits B (w.buf ||| shiftTowardLsb B (place B f c) w.off.toNat)).take (w.off.toNat + c) =
      (byteBits B w.buf).take w.off.toNat ++ (fieldBits B f c).take (8 - w.off.toNat) := by
  have ho := w.off.isLt
  refine List.ext_getElem (by simp; omega) fun i hi _ => ?_
  obtain ⟨hic, h8⟩ : i < w.off.toNat + c ∧ i < 8 := by simpa using hi
  rw [List.getElem_take, getElem_byteBits, bitAt_or, bitAt_shiftTowardLsb B _ _ h8, List.getElem_append]
  by_cases hold : i < w.off.toNat
  · simp [hold, show i < 8 by omega, show ¬ w.off.toNat ≤ i by omega]
  · have hlen : ((byteBits B w.buf).take w.off.toNat).length = w.off.toNat := by simp; omega
    have hfield := bitAt_place B f hc (show i - w.off.toNat < c by omega)
    simp [hold, hlen, h i (by omega) h8, show w.off.toNat ≤ i by omega, hfield]

/-- R175: what a field leaves over for the next byte are its last bits. -/
theorem take_byteBits_carry (B : Endian) (f : Byte) {c : Nat} (hc : c ≤ 8) (k : Nat) :
    (byteBits B (shiftTowardMsb B (place B f c) k)).take (c - k) = (fieldBits B f c).drop k := by
  refine List.ext_getElem (by simp; omega) fun i hi _ => ?_
  have hic : i < c - k := by simp at hi; omega
  simp [bitAt_shiftTowardMsb B _ k (show i < 8 by omega), show i + k < 8 by omega,
    bitAt_place B f hc (show i + k < c by omega), Nat.add_comm k i]

end Sys2Proof.Machine
end

section
/-! SUPPORT. A byte sequence written as bit groups and read back as the same groups (20_memory.md R68). -/

namespace Sys2Proof.Machine

theorem advance_toNat (o : Offset) (c : Nat) : (advance o c).toNat = (o.toNat + c) % 8 := rfl

/-! ## Writing groups -/

/-- The writer has put out the bits `done`, and its sink will take each of the bytes that `todo` more bits complete;
with these the writer is aligned. -/
structure Writer.Packing (B : Endian) (done : List Bool) (todo : Nat) (w : Writer) : Prop where
  attached : w.attached = true
  pending : w.PendingOnly B
  put : w.put B = done
  draws : ∃ k, w.port.draws = List.replicate k (.accept 1) ∧ w.off.toNat + todo = 8 * k

/-- `SinkByte` of a byte that the sink takes. -/
theorem Writer.sinkByte_of_ack {w : Writer} {b : Byte} (h : w.port.answer [b] = some (.ack 1)) (i : Instr)
    (failed : IoCause → Status) (k : Writer → Writer) :
    w.sinkByte i b failed k = k (w.setPort (w.port.after [b] (.ack 1))) := by
  simp [Writer.sinkByte, Writer.snkWrite, h]

/-- A field that fits into the partial byte is pending with the bits before it (R175). -/
theorem Writer.Packing.deposit {B : Endian} {done : List Bool} {w : Writer} (f : Byte) {c n : Nat}
    (h : w.Packing B done (c + n)) (hc : c ≤ 8) (hfit : w.off.toNat + c < 8) :
    (w.setCursor (advance w.off c) (w.buf ||| shiftTowardLsb B (place B f c) w.off.toNat)).Packing B
      (done ++ fieldBits B f c) n where
  attached := h.attached
  pending := h.pending.deposit_field f hfit
  put := by
    simp only [Writer.put, setCursor_port, setCursor_off, setCursor_buf, advance_toNat_of_lt hfit,
      h.pending.take_byteBits_deposit f hc, ← h.put]
    rw [List.take_of_length_le (l := fieldBits B f c) (by simp; omega), List.append_assoc]
  draws := by
    obtain ⟨k, hk, hsum⟩ := h.draws
    exact ⟨k, hk, by simp only [setCursor_off, advance_toNat_of_lt hfit]; omega⟩

/-- A field that completes the partial byte is in the sink as far as the byte goes, and pending beyond it (R175). -/
theorem Writer.Packing.complete {B : Endian} {done : List Bool} {w : Writer} (f : Byte) {c n : Nat}
    (h : w.Packing B done (c + n)) (hc : c ≤ 8) (hfull : 8 ≤ w.off.toNat + c) :
    let cur := w.buf ||| shiftTowardLsb B (place B f c) w.off.toNat
    w.port.answer [cur] = some (.ack 1) ∧
    ((w.setPort (w.port.after [cur] (.ack 1))).setCursor (advance w.off c)
      (shiftTowardMsb B (place B f c) (8 - w.off.toNat))).Packing B (done ++ fieldBits B f c) n := by
  intro cur
  have ho := w.off.isLt
  have hoff := advance_toNat_of_ge hfull hc
  obtain ⟨k, hk, hsum⟩ := h.draws
  obtain ⟨k, rfl⟩ : ∃ m, k = m + 1 := ⟨k - 1, by omega⟩
  rw [List.replicate_succ] at hk
  refine ⟨SnkPort.answer_of_accept hk le_rfl, h.attached, ?_, ?_, k, ?_, ?_⟩
  · exact Writer.PendingOnly.carry_field (w.setPort _) B f hc hfull
  · have hbyte : byteBits B cur = (byteBits B w.buf).take w.off.toNat ++ (fieldBits B f c).take (8 - w.off.toNat) := by
      rw [← h.pending.take_byteBits_deposit f hc, List.take_of_length_le hfull]
    have hrest : (byteBits B (shiftTowardMsb B (place B f c) (8 - w.off.toNat))).take (w.off.toNat + c - 8) =
        (fieldBits B f c).drop (8 - w.off.toNat) := by
      rw [← take_byteBits_carry B f hc, show c - (8 - w.off.toNat) = w.off.toNat + c - 8 by omega]
    simp [Writer.put, hoff, hbyte, hrest, ← h.put]
  · simp [hk]
  · simp only [setCursor_off, hoff]
    omega

/-- Each field is accepted (R175). -/
theorem Writer.Packing.writeField {B : Endian} {done : List Bool} {w : Writer} (f : Byte) {c n : Nat}
    (h : w.Packing B done (c + n)) (hc : c ≤ 8) :
    ∃ v : Writer, w.writeField B f c = v.respond .okay ∧ (v.respond .okay).Packing B (done ++ fieldBits B f c) n := by
  unfold Writer.writeField
  dsimp only
  split
  · rename_i hfull
    obtain ⟨hack, hv⟩ := h.complete f hc hfull
    exact ⟨_, Writer.sinkByte_of_ack hack _ _ _, hv.attached, hv.pending, hv.put, hv.draws⟩
  · rename_i hfit
    have hv := h.deposit f hc (by omega)
    exact ⟨_, rfl, hv.attached, hv.pending, hv.put, hv.draws⟩

/-- `W_WRITE_BITS` of an attached writer with a count that the checks let through (R175). -/
theorem exec_wWriteBits {s : State} (att : s.writer.attached = true) (bits : Byte) {c : Nat} (hc : c ≤ 8) :
    exec (.wWriteBits bits c) s = .next (s.setWriter (s.writer.writeField s.params.writerEndian bits c)) := by
  simp [exec, execWWriteBits, State.onWriter, Writer.whenAttached, att, countTooLarge, Nat.not_lt.mpr hc]

/-- Bits cut into groups and written are put out behind those before them. -/
theorem writeFields_cutFields {B : Endian} {sizes : List Nat} (hsizes : ∀ c ∈ sizes, c ≤ 8) {done bits : List Bool}
    (hlen : bits.length = sizes.sum) {s : State} (hB : s.params.writerEndian = B)
    (h : s.writer.Packing B done bits.length) :
    ∃ t, writeFields (cutFields B sizes bits) s = some t ∧ t.writer.Packing B (done ++ bits) 0 := by
  induction sizes generalizing done bits s with
  | nil =>
    obtain rfl : bits = [] := List.length_eq_zero_iff.mp hlen
    exact ⟨s, rfl, by simpa using h⟩
  | cons c cs ih =>
    obtain ⟨hc, hcs⟩ := List.forall_mem_cons.mp hsizes
    rw [List.sum_cons] at hlen
    have htake : (bits.take c).length = c := by simp; omega
    have hfield : fieldBits B (BitVec.ofNat 8 (assemble B (bits.take c))) c = bits.take c := by
      simpa only [htake] using fieldBits_assemble (B := B) (bits := bits.take c) (by omega)
    have hdrop : bits.length = c + (bits.drop c).length := by simp; omega
    obtain ⟨v, hv, hpack⟩ := Writer.Packing.writeField (BitVec.ofNat 8 (assemble B (bits.take c))) (hdrop ▸ h) hc
    have hexec := exec_wWriteBits h.attached (BitVec.ofNat 8 (assemble B (bits.take c))) hc
    rw [hB, hv] at hexec
    rw [hfield] at hpack
    obtain ⟨t, ht, htp⟩ := ih hcs (by simp; omega) (s := s.setWriter (v.respond .okay)) hB hpack
    refine ⟨t, ?_, by simpa using htp⟩
    simpa [cutFields, writeFields, answered, hexec, State.reply, Instr.engine, Response.okay] using ht

/-! ## Reading groups -/

theorem Reader.aligned_eq_true {r : Reader} : r.aligned = true ↔ r.off = 0 := beq_iff_eq

theorem Reader.aligned_eq_false {r : Reader} : r.aligned = false ↔ r.off ≠ 0 := beq_eq_false_iff_ne

/-- The bits of the byte the reader holds that are still to be delivered (10_state.md R24). -/
def Reader.heldBits (B : Endian) (r : Reader) : List Bool :=
  if r.off = 0 then [] else (byteBits B r.buf).drop r.off.toNat

theorem Reader.ahead_eq (B : Endian) (r : Reader) : r.ahead B = r.heldBits B ++ streamBits B r.port.stream := rfl

/-- Of a byte whose first `n` bits have been delivered, the others are held. -/
theorem Reader.heldBits_of_delivered {B : Endian} {r : Reader} {n : Nat} (hoff : r.off.toNat = n % 8) (hn : 1 ≤ n)
    (h8 : n ≤ 8) : r.heldBits B = (byteBits B r.buf).drop n := by
  unfold Reader.heldBits
  split
  · rename_i ho
    rw [ho] at hoff
    obtain rfl : n = 8 := by simp at hoff; omega
    rw [List.drop_of_length_le (by simp)]
  · rename_i ho
    have hne : r.off.toNat ≠ 0 := fun e => ho (BitVec.eq_of_toNat_eq e)
    rw [hoff, Nat.mod_eq_of_lt (by omega)]

/-- With the offset they complete a byte, or there are none. -/
theorem Reader.heldBits_cases (B : Endian) (r : Reader) :
    (r.off = 0 ∧ (r.heldBits B).length = 0) ∨
      (1 ≤ r.off.toNat ∧ r.heldBits B = (byteBits B r.buf).drop r.off.toNat ∧
        (r.heldBits B).length + r.off.toNat = 8) := by
  by_cases ho : r.off = 0
  · exact .inl ⟨ho, by simp [heldBits, ho]⟩
  · have hlt := r.off.isLt
    have hne : r.off.toNat ≠ 0 := fun e => ho (BitVec.eq_of_toNat_eq e)
    have hheld : r.heldBits B = (byteBits B r.buf).drop r.off.toNat := if_neg ho
    exact .inr ⟨by omega, hheld, by simp [hheld]; omega⟩

/-- The window over the byte `x` holds the bits held, then the first of `x` (R134). -/
theorem Reader.byteBits_window (B : Endian) (r : Reader) (x : Byte) :
    byteBits B (r.window B x) = r.heldBits B ++ (byteBits B x).take (8 - (r.heldBits B).length) := by
  have hlt := r.off.isLt
  obtain ⟨ho, hlen⟩ | ⟨hpos, hheld, hlen⟩ := r.heldBits_cases B
  · have hw : r.window B x = x := if_pos (Reader.aligned_eq_true.mpr ho)
    simp [hw, List.length_eq_zero_iff.mp hlen]
  · have hne : r.off ≠ 0 := fun e => by simp [e] at hpos
    have hw : r.window B x = rcombine B r.buf x r.off.toNat := if_neg (mt Reader.aligned_eq_true.mp hne)
    rw [hw, byteBits_rcombine B _ _ (by omega), hheld, show 8 - ((byteBits B r.buf).drop r.off.toNat).length =
      r.off.toNat by simp; omega]

/-- The reader has the bits `bits` to deliver, and its source will answer each fetch of a byte with one. -/
structure Reader.Feeding (B : Endian) (bits : List Bool) (r : Reader) : Prop where
  attached : r.attached = true
  ahead : r.ahead B = bits
  draws : r.port.draws = List.replicate r.port.stream.length (.deliver 1)

/-- A fetch while the source has a byte left. -/
theorem Reader.Feeding.fetchByte {B : Endian} {bits : List Bool} {r : Reader} (h : r.Feeding B bits) {x : Byte}
    {xs : List Byte} (hx : r.port.stream = x :: xs) (i : Instr) (k : Byte → Reader → Reader) :
    ∃ q : SrcPort, q.stream = xs ∧ q.draws = List.replicate xs.length (.deliver 1) ∧
      r.fetchByte i k = k x (r.setPort q) := by
  have hdraws := h.draws
  rw [hx, List.length_cons, List.replicate_succ] at hdraws
  have hans : r.port.answer 1 = some (.data [x]) := by rw [SrcPort.answer_of_deliver hdraws le_rfl, hx]; rfl
  exact ⟨r.port.after 1 (.data [x]), by simp [hx], by simp [hdraws], by simp [Reader.fetchByte, Reader.srcRead, hans]⟩

/-- A field inside the partial byte is taken from it (R134). -/
theorem Reader.Feeding.readHeld {B : Endian} {bits : List Bool} {r : Reader} (h : r.Feeding B bits) {c : Nat}
    (hpos : 1 ≤ r.off.toNat) (hfit : r.off.toNat + c ≤ 8) :
    extract B (shiftTowardMsb B r.buf r.off.toNat) c = BitVec.ofNat 8 (assemble B (bits.take c)) ∧
    (r.setCursor (advance r.off c) r.buf).Feeding B (bits.drop c) := by
  have hheld : r.heldBits B = (byteBits B r.buf).drop r.off.toNat := heldBits_of_delivered (by omega) hpos (by omega)
  have hlen : c ≤ (r.heldBits B).length := by simp [hheld]; omega
  have hrest : (r.setCursor (advance r.off c) r.buf).heldBits B = (r.heldBits B).drop c := by
    rw [hheld, List.drop_drop]
    exact heldBits_of_delivered (advance_toNat _ _) (by omega) hfit
  refine ⟨?_, h.attached, ?_, h.draws⟩
  · rw [extract_eq_assemble B _ (by omega), take_byteBits_shiftTowardMsb B _ hfit, ← hheld, ← h.ahead, ahead_eq,
      List.take_append_of_le_length hlen]
  · rw [ahead_eq, hrest, ← h.ahead, ahead_eq, List.drop_append_of_le_length hlen]
    rfl

/-- A field that goes on in the byte `x` fetched for it is taken from the window over it (R134). -/
theorem Reader.Feeding.readFetched {B : Endian} {bits : List Bool} {r : Reader} (h : r.Feeding B bits) {c : Nat}
    (hc : c ≤ 8) (hlong : (r.heldBits B).length < c) {x : Byte} {xs : List Byte} (hx : r.port.stream = x :: xs)
    {q : SrcPort} (hq : q.stream = xs) (hd : q.draws = List.replicate xs.length (.deliver 1)) :
    extract B (r.window B x) c = BitVec.ofNat 8 (assemble B (bits.take c)) ∧
    ((r.setPort q).setCursor (advance r.off c) x).Feeding B (bits.drop c) := by
  have hbits : bits = r.heldBits B ++ (byteBits B x ++ streamBits B xs) := by
    rw [← h.ahead, ahead_eq, hx, streamBits_cons]
  have hwindow : byteBits B (r.window B x) = bits.take 8 := by
    have hheld : (r.heldBits B).length ≤ 8 := by omega
    rw [byteBits_window, hbits, List.take_append, List.take_of_length_le hheld, List.take_append_of_le_length (by simp)]
  have hoff : (advance r.off c).toNat = (c - (r.heldBits B).length) % 8 := by
    rw [advance_toNat]
    obtain ⟨ho, hlen⟩ | ⟨-, -, hlen⟩ := r.heldBits_cases B
    · simp [ho, hlen]
    · omega
  have hrest : ((r.setPort q).setCursor (advance r.off c) x).heldBits B =
      (byteBits B x).drop (c - (r.heldBits B).length) := heldBits_of_delivered hoff (by omega) (by omega)
  refine ⟨?_, h.attached, ?_, by simp [hq, hd]⟩
  · rw [extract_eq_assemble B _ hc, hwindow, List.take_take, Nat.min_eq_left hc]
  · rw [ahead_eq, hrest, hbits, List.drop_append, List.drop_of_length_le (Nat.le_of_lt hlong), List.nil_append,
      List.drop_append_of_le_length (by simp; omega), setCursor_port, setPort_port, hq]

/-- Each field is delivered while there are bits for it (R134). -/
theorem Reader.Feeding.readField {B : Endian} {bits : List Bool} {r : Reader} (h : r.Feeding B bits) {c : Nat}
    (hc : c ≤ 8) (hbits : c ≤ bits.length) :
    ∃ v : Reader, r.readField B c = v.respond (.value (BitVec.ofNat 8 (assemble B (bits.take c)))) ∧
      v.Feeding B (bits.drop c) := by
  unfold Reader.readField
  split
  · rename_i hzero
    exact ⟨r, by cases B <;> simp [hzero, assemble], by simpa [hzero] using h⟩
  · rename_i hpos
    split
    · rename_i hheld
      obtain ⟨hal, hfit⟩ := hheld
      obtain ⟨ho, -⟩ | ⟨ho, -, -⟩ := r.heldBits_cases B
      · exact absurd ho (Reader.aligned_eq_false.mp hal)
      · obtain ⟨hvalue, hv⟩ := h.readHeld (c := c) ho (by have := r.off.isLt; omega)
        exact ⟨_, by rw [Reader.finishRead, hvalue], hv⟩
    · rename_i hfetch
      have hlong : (r.heldBits B).length < c := by
        obtain ⟨-, hlen⟩ | ⟨ho, -, hlen⟩ := r.heldBits_cases B
        · omega
        · have hal : r.aligned = false := Reader.aligned_eq_false.mpr fun e => by simp [e] at ho
          have := not_and.mp hfetch hal
          omega
      obtain ⟨x, xs, hx⟩ : ∃ x xs, r.port.stream = x :: xs := by
        refine List.exists_cons_of_ne_nil fun hnil => ?_
        have := congrArg List.length h.ahead
        simp [ahead_eq, hnil] at this
        omega
      obtain ⟨q, hq, hd, hrun⟩ := h.fetchByte hx (.rReadBits c) fun x r' =>
        r'.finishRead (advance r.off c) x (extract B (r.window B x) c)
      obtain ⟨hvalue, hv⟩ := h.readFetched hc hlong hx hq hd
      exact ⟨_, by rw [hrun, Reader.finishRead, hvalue], hv⟩

/-- `R_READ_BITS` of an attached reader with a count that the checks let through (R134). -/
theorem exec_rReadBits {s : State} (att : s.reader.attached = true) {c : Nat} (hc : c ≤ 8) :
    exec (.rReadBits c) s = .next (s.setReader (s.reader.readField s.params.readerEndian c)) := by
  simp [exec, execRReadBits, State.onReader, Reader.whenAttached, att, countTooLarge, Nat.not_lt.mpr hc]

/-- Reading with the counts of a cut gives the values of its groups. -/
theorem readFields_cutFields {B : Endian} {sizes : List Nat} (hsizes : ∀ c ∈ sizes, c ≤ 8) {bits : List Bool}
    (hlen : sizes.sum ≤ bits.length) {s : State} (hB : s.params.readerEndian = B) (h : s.reader.Feeding B bits) :
    ∃ u, readFields sizes s = some ((cutFields B sizes bits).map Prod.fst, u) := by
  induction sizes generalizing bits s with
  | nil => exact ⟨s, rfl⟩
  | cons c cs ih =>
    obtain ⟨hc, hcs⟩ := List.forall_mem_cons.mp hsizes
    rw [List.sum_cons] at hlen
    obtain ⟨v, hv, hfeed⟩ := h.readField hc (by omega)
    have hexec := exec_rReadBits h.attached hc
    rw [hB, hv] at hexec
    obtain ⟨u, hu⟩ := ih hcs (by simp; omega)
      (s := s.setReader (v.respond (.value (BitVec.ofNat 8 (assemble B (bits.take c)))))) hB
      ⟨hfeed.attached, hfeed.ahead, hfeed.draws⟩
    exact ⟨u, by simp [cutFields, readFields, answered, hexec, State.reply, Instr.engine, Response.value, ← hu]⟩

/-! ## There and back -/

/-- Settles O43: the writer puts out the bits of the groups (`writeFields_cutFields`), which are those of the sequence,
and the reader takes the same groups off its stream (`readFields_cutFields`). -/
theorem roundTripOfBitGroups : Obligations.RoundTripOfBitGroups := by
  intro S sizes B s hsizes hsum hwB hrB hwatt hwoff hwbuf hwstream hwdraws hratt hroff hrstream hrdraws
  have hlen : (streamBits B S).length = sizes.sum := by rw [streamBits_length, hsum]
  have hpack : s.writer.Packing B [] (streamBits B S).length :=
    ⟨hwatt, fun i _ _ => hwbuf ▸ bitAt_zero B i, by simp [Writer.put, hwstream, hwoff],
      S.length, hwdraws, by simp [hwoff]⟩
  have hfeed : s.reader.Feeding B (streamBits B S) :=
    ⟨hratt, by simp [Reader.ahead, hroff, hrstream], by rw [hrstream, hrdraws]⟩
  obtain ⟨t, ht, htp⟩ := writeFields_cutFields hsizes hlen hwB hpack
  refine ⟨⟨t, ht, ?_⟩, readFields_cutFields hsizes hlen.ge hrB hfeed⟩
  have hoff : t.writer.off = 0 := by
    obtain ⟨k, -, hk⟩ := htp.draws
    have := t.writer.off.isLt
    exact BitVec.eq_of_toNat_eq (show t.writer.off.toNat = 0 by omega)
  have hput := htp.put
  simp only [Writer.put, hoff, List.nil_append] at hput
  exact ⟨streamBits_injective B (by simpa using hput), hoff⟩

end Sys2Proof.Machine
end

section
/-! SUPPORT. The transactions each command makes (20_memory.md R51, R54). -/

namespace Sys2Proof.Machine

/-! ## The source transfers (20_memory.md R51) -/

/-- A reader command is an operation on the reader. -/
theorem exec_eq_onReader {i : Instr} (hi : i.engine = .reader) :
    ∃ f : Params → Reader → Reader, ∀ s : State, exec i s = s.onReader f := by
  cases i with
  | rNew | rReadBit | rReadBits | rIsAligned | rAlign | rGetRef | rGetMut | rGetMutUnchecked | rIntoInner | rRead
  | rDrop =>
    simp only [exec, execRNew, execRReadBit, execRReadBits, execRIsAligned, execRAlign, execRGetRef, execRGetMut,
      execRGetMutUnchecked, execRIntoInner, execRRead, execRDrop]
    exact ⟨_, fun _ => rfl⟩
  | _ => cases hi

/-- The requests on the source port that have been answered. -/
def SrcPort.asked (p : SrcPort) : List Nat := p.log.map SrcTxn.asked

theorem SrcPort.asked_after (p : SrcPort) (len : Nat) (a : SrcAnswer) : (p.after len a).asked = p.asked ++ [len] := by
  simp [SrcPort.asked]

@[simp] theorem Reader.requested_respond (r : Reader) (p : Response) : (r.respond p).requested = r.port.asked :=
  List.append_nil _

@[simp] theorem Reader.requested_raise (r : Reader) (st : Status) : (r.raise st).requested = r.port.asked :=
  r.requested_respond _

@[simp] theorem Reader.requested_finishRead (r : Reader) (o : Offset) (b v : Byte) :
    (r.finishRead o b v).requested = r.port.asked := (r.setCursor o b).requested_respond _

/-- One `SrcRead`, answered or not, where what goes on with an answer makes no other. -/
theorem Reader.requested_srcRead {r : Reader} {i : Instr} {len : Nat} {k : SrcAnswer → Reader → Reader}
    (hk : ∀ a q, (k a (r.setPort q)).requested = q.asked) :
    (r.srcRead i len k).requested = r.port.asked ++ [len] := by
  obtain ⟨-, e⟩ | ⟨a, -, e⟩ := r.srcRead_cases i len k <;> rw [e]
  · rfl
  · rw [hk, SrcPort.asked_after]

theorem Reader.requested_fetchByte {r : Reader} {i : Instr} {k : Byte → Reader → Reader}
    (hk : ∀ x q, (k x (r.setPort q)).requested = q.asked) : (r.fetchByte i k).requested = r.port.asked ++ [1] := by
  refine Reader.requested_srcRead fun a q => ?_
  match a with
  | .data (x :: _) => exact hk x q
  | .data [] => simp
  | .err e => simp

/-- A detached reader makes no request. -/
theorem Reader.requested_whenAttached {r k : Reader} {ls : List Nat}
    (hk : r.attached = true → k.requested = r.port.asked ++ ls) (hd : r.attached = false → ls = []) :
    (r.whenAttached k).requested = r.port.asked ++ ls := by
  obtain ⟨att, e⟩ | ⟨det, e⟩ := r.whenAttached_cases k <;> rw [e]
  · exact hk att
  · simp [hd det]

theorem Reader.requested_readField {r : Reader} (att : r.attached = true) (B : Endian) {c : Nat} (hc : c ≤ 8) :
    (r.readField B c).requested = r.port.asked ++ srcRequests r (.rReadBits c) := by
  unfold Reader.readField
  split
  · rename_i hzero
    simp [srcRequests, hzero]
  · rename_i hpos
    split
    · rename_i hheld
      obtain ⟨hal, hfit⟩ := hheld
      have hnone : srcRequests r (.rReadBits c) = [] :=
        if_neg fun ⟨_, _, _, h⟩ => h.elim (Reader.aligned_eq_false.mp hal) fun h => by omega
      simp [hnone]
    · rename_i hfetch
      have hone : srcRequests r (.rReadBits c) = [1] := by
        refine if_pos ⟨att, by omega, hc, ?_⟩
        by_cases ho : r.off = 0
        · exact .inl ho
        · have := not_and.mp hfetch (Reader.aligned_eq_false.mpr ho)
          exact .inr (by omega)
      rw [hone]
      exact Reader.requested_fetchByte fun x q => by simp

/-- The outcome `x` of the reader command `i` replaces the reader of `s` by one whose requests have grown by the row of
the table. -/
def State.ReaderAsks (s : State) (i : Instr) (x : Result State) : Prop :=
  ∃ r : Reader, r.requested = s.reader.port.asked ++ srcRequests s.reader i ∧ x = .next (s.setReader r)

theorem State.ReaderAsks.onReader {s : State} {i : Instr} {f : Params → Reader → Reader}
    (h : (f s.params s.reader).requested = s.reader.port.asked ++ srcRequests s.reader i) :
    s.ReaderAsks i (s.onReader f) := ⟨_, h, rfl⟩

/-- A command that the attachment check may refuse. -/
theorem State.ReaderAsks.whenAttached {s : State} {i : Instr} {k : Params → Reader → Reader}
    (hd : s.reader.attached = false → srcRequests s.reader i = [])
    (hk : s.reader.attached = true →
      (k s.params s.reader).requested = s.reader.port.asked ++ srcRequests s.reader i) :
    s.ReaderAsks i (s.onReader fun p r => r.whenAttached (k p r)) :=
  .onReader (Reader.requested_whenAttached hk hd)

/-- A command without a row in the table. -/
theorem State.ReaderAsks.of_noRow {s : State} {i : Instr} {k : Params → Reader → Reader}
    (hi : srcRequests s.reader i = []) (hk : (k s.params s.reader).requested = s.reader.port.asked) :
    s.ReaderAsks i (s.onReader fun p r => r.whenAttached (k p r)) :=
  .whenAttached (fun _ => hi) fun _ => by rw [hk, hi, List.append_nil]

theorem exec_readerAsks {i : Instr} (hi : i.engine = .reader) (s : State) : s.ReaderAsks i (exec i s) := by
  cases i with
  | rNew =>
    unfold exec execRNew
    refine .onReader ?_
    split <;> simp [srcRequests]
  | rReadBit =>
    unfold exec execRReadBit
    refine .whenAttached (fun det => by simp [srcRequests, det]) fun att => ?_
    split
    · rename_i hal
      have hrow : srcRequests s.reader .rReadBit = [1] := if_pos ⟨att, Reader.aligned_eq_true.mp hal⟩
      rw [hrow]
      exact Reader.requested_fetchByte fun x q => by simp
    · rename_i hal
      have hrow : srcRequests s.reader .rReadBit = [] := if_neg fun h => hal (Reader.aligned_eq_true.mpr h.2)
      simp [hrow]
  | rReadBits c =>
    unfold exec execRReadBits
    refine .whenAttached (fun det => by simp [srcRequests, det]) fun att => ?_
    split
    · rename_i hc
      have hrow : srcRequests s.reader (.rReadBits c) = [] :=
        if_neg fun ⟨_, _, h, _⟩ => absurd (of_decide_eq_true hc) (by omega)
      simp [hrow]
    · rename_i hc
      exact Reader.requested_readField att _ (by simpa [countTooLarge] using hc)
  | rIsAligned =>
    unfold exec execRIsAligned
    exact .of_noRow rfl (by simp)
  | rAlign =>
    unfold exec execRAlign
    exact .of_noRow rfl (by simp)
  | rGetRef =>
    unfold exec execRGetRef
    exact .of_noRow rfl (by simp)
  | rGetMut =>
    unfold exec execRGetMut
    refine .of_noRow rfl ?_
    split <;> simp
  | rGetMutUnchecked =>
    unfold exec execRGetMutUnchecked
    exact .of_noRow rfl (by simp)
  | rIntoInner =>
    unfold exec execRIntoInner
    exact .of_noRow rfl (by simp)
  | rRead len =>
    unfold exec execRRead
    refine .whenAttached (fun det => by simp [srcRequests, det]) fun att => ?_
    have hrow : srcRequests s.reader (.rRead len) = [len] := if_pos att
    rw [hrow]
    refine Reader.requested_srcRead fun a q => ?_
    cases a with
    | err e => simp
    | data xs =>
      dsimp only
      split <;> simp
  | rDrop =>
    unfold exec execRDrop
    refine .onReader ?_
    split <;> simp [srcRequests]
  | _ => cases hi

/-- Settles O26: a reader command makes the requests of its row (`exec_readerAsks`), and a writer command does not reach
the reader. -/
theorem sourceTransferTable : Obligations.SourceTransferTable := by
  intro i s t hexec
  refine ⟨fun hi => ?_, fun hi => ?_⟩
  · obtain ⟨r, hr, e⟩ := exec_readerAsks hi s
    rw [e] at hexec
    cases hexec
    exact hr
  · obtain ⟨f, hf⟩ := exec_eq_onWriter hi
    rw [hf, State.onWriter_eq_next] at hexec
    rw [hexec, State.setWriter_reader]

/-! ## The sink transfers (20_memory.md R54) -/

theorem Writer.aligned_eq_true {w : Writer} : w.aligned = true ↔ w.off = 0 := beq_iff_eq

/-- The requests on the sink port that have been answered. -/
def SnkPort.asked (p : SnkPort) : List SnkRequest := p.log.map SnkTxn.request

theorem SnkPort.asked_after (p : SnkPort) (xs : List Byte) (a : SnkAnswer) :
    (p.after xs a).asked = p.asked ++ [.write xs.length] := by
  simp [SnkPort.asked, SnkTxn.request]

theorem SnkPort.asked_afterFlush (p : SnkPort) (a : FlushAnswer) : (p.afterFlush a).asked = p.asked ++ [.flush] := by
  simp [SnkPort.asked, SnkTxn.request]

@[simp] theorem Writer.requested_respond (w : Writer) (p : Response) : (w.respond p).requested = w.port.asked :=
  List.append_nil _

@[simp] theorem Writer.requested_raise (w : Writer) (st : Status) : (w.raise st).requested = w.port.asked :=
  w.requested_respond _

/-- The data-in channel is none of the sink's. -/
@[simp] theorem Writer.requested_dropFrame (w : Writer) (len : Nat) : (w.dropFrame len).requested = w.requested := by
  obtain ⟨-, e⟩ | ⟨-, e⟩ := w.dropFrame_cases len <;> rw [e]
  rfl

/-- One `SnkWrite`, answered or not, where what goes on with an answer makes no other request. -/
theorem Writer.requested_snkWrite {w : Writer} {i : Instr} {xs : List Byte} {k : SnkAnswer → Writer → Writer}
    (hk : ∀ a q, (k a (w.setPort q)).requested = q.asked) :
    (w.snkWrite i xs k).requested = w.port.asked ++ [.write xs.length] := by
  obtain ⟨-, e⟩ | ⟨a, -, e⟩ := w.snkWrite_cases i xs k <;> rw [e]
  · rfl
  · rw [hk, SnkPort.asked_after]

/-- One `SnkFlush`, answered or not, where what goes on with an answer makes no other request. -/
theorem Writer.requested_snkFlush {w : Writer} {i : Instr} {k : FlushAnswer → Writer → Writer}
    (hk : ∀ a q, (k a (w.setPort q)).requested = q.asked) :
    (w.snkFlush i k).requested = w.port.asked ++ [.flush] := by
  obtain ⟨-, e⟩ | ⟨a, -, e⟩ := w.snkFlush_cases i k <;> rw [e]
  · rfl
  · rw [hk, SnkPort.asked_afterFlush]

theorem Writer.requested_sinkByte {w : Writer} {i : Instr} {b : Byte} {failed : IoCause → Status}
    {k : Writer → Writer} (hk : ∀ q, (k (w.setPort q)).requested = q.asked) :
    (w.sinkByte i b failed k).requested = w.port.asked ++ [.write 1] := by
  refine Writer.requested_snkWrite (xs := [b]) fun a q => ?_
  match a with
  | .ack 0 => simp
  | .ack (_ + 1) => exact hk q
  | .err e => simp

/-- The partial byte of an attached writer, where there is one. -/
theorem Writer.requested_flushPartial {w : Writer} (att : w.attached = true) {i : Instr} {failed : IoCause → Status}
    {k : Writer → Writer} (hk : ∀ v : Writer, (k v).requested = v.port.asked) :
    (w.flushPartial i failed k).requested = w.port.asked ++ partialRequest w := by
  obtain ⟨ho, e⟩ | ⟨ho, e⟩ := w.flushPartial_cases i failed k <;> rw [e]
  · simp [hk, partialRequest, ho]
  · have hrow : partialRequest w = [.write 1] := if_pos ⟨att, ho⟩
    rw [hrow]
    exact Writer.requested_sinkByte fun q => hk _

/-- A detached writer makes no request. -/
theorem Writer.requested_whenAttached {w k : Writer} {ls : List SnkRequest}
    (hk : w.attached = true → k.requested = w.port.asked ++ ls) (hd : w.attached = false → ls = []) :
    (w.whenAttached k).requested = w.port.asked ++ ls := by
  obtain ⟨att, e⟩ | ⟨det, e⟩ := w.whenAttached_cases k <;> rw [e]
  · exact hk att
  · simp [hd det]

theorem stagedCount_le (mode : StagingMode) (cap : Half) (len : Nat) : stagedCount mode cap len ≤ len := by
  cases mode with
  | bounded => exact Nat.min_le_left _ _
  | perCall => exact Nat.le_refl _

/-- An unaligned `W_WRITE` offers the bytes it stages (R182). -/
theorem snkRequests_wWrite_of_unaligned {w : Writer} (att : w.attached = true) (ho : w.off ≠ 0) (mode : StagingMode)
    (len : Nat) : snkRequests mode w (.wWrite len) = [.write (stagedCount mode w.cap len)] := by
  simp only [snkRequests, if_pos att, if_neg ho]
  cases mode <;> rfl

/-- The body of `W_WRITE` on its `len` bytes makes one offer (R182). -/
theorem Writer.requested_writeBytes {w : Writer} (att : w.attached = true) (mode : StagingMode) (B : Endian) {len : Nat}
    {d : List Byte} (hd : d.length = len) :
    (w.writeBytes mode B len d).requested = w.port.asked ++ snkRequests mode w (.wWrite len) := by
  unfold Writer.writeBytes
  split
  · rename_i hal
    have hrow : snkRequests mode w (.wWrite len) = [.write d.length] := by
      simp [snkRequests, att, Writer.aligned_eq_true.mp hal, hd]
    rw [hrow]
    refine Writer.requested_snkWrite fun a q => ?_
    cases a <;> simp
  · rename_i hal
    have ho : w.off ≠ 0 := mt Writer.aligned_eq_true.mpr hal
    rw [snkRequests_wWrite_of_unaligned att ho, Writer.requested_snkWrite, stageShifted_length, List.length_take, hd,
      Nat.min_eq_left (stagedCount_le mode w.cap len)]
    intro a q
    match a with
    | .ack 0 => simp
    | .ack (_ + 1) => simp
    | .err e => simp

/-- The outcome `x` of the writer command `i` replaces the writer of `s` by one whose requests have grown by the row of
the table. -/
def State.WriterAsks (s : State) (i : Instr) (x : Result State) : Prop :=
  ∃ w : Writer, w.requested = s.writer.port.asked ++ snkRequests s.params.stagingMode s.writer i ∧
    x = .next (s.setWriter w)

theorem State.WriterAsks.onWriter {s : State} {i : Instr} {f : Params → Writer → Writer}
    (h : (f s.params s.writer).requested = s.writer.port.asked ++ snkRequests s.params.stagingMode s.writer i) :
    s.WriterAsks i (s.onWriter f) := ⟨_, h, rfl⟩

/-- A command that the attachment check may refuse. -/
theorem State.WriterAsks.whenAttached {s : State} {i : Instr} {k : Params → Writer → Writer}
    (hd : s.writer.attached = false → snkRequests s.params.stagingMode s.writer i = [])
    (hk : s.writer.attached = true → (k s.params s.writer).requested =
      s.writer.port.asked ++ snkRequests s.params.stagingMode s.writer i) :
    s.WriterAsks i (s.onWriter fun p w => w.whenAttached (k p w)) :=
  .onWriter (Writer.requested_whenAttached hk hd)

/-- A command without a row in the table. -/
theorem State.WriterAsks.of_noRow {s : State} {i : Instr} {k : Params → Writer → Writer}
    (hi : snkRequests s.params.stagingMode s.writer i = [])
    (hk : (k s.params s.writer).requested = s.writer.port.asked) :
    s.WriterAsks i (s.onWriter fun p w => w.whenAttached (k p w)) :=
  .whenAttached (fun _ => hi) fun _ => by rw [hk, hi, List.append_nil]

theorem partialRequest_of_detached {w : Writer} (det : w.attached = false) : partialRequest w = [] := by
  simp [partialRequest, det]

/-- `W_WRITE` makes its offer once its bytes have come (R182). -/
theorem execWWrite_writerAsks {s : State} {len : Nat} (hlen : len ≤ s.writer.dataIn.length) :
    s.WriterAsks (.wWrite len) (execWWrite len s) := by
  unfold execWWrite
  refine .onWriter ?_
  obtain ⟨-, e⟩ | ⟨hmore, -⟩ := s.writer.takeData_cases (.command (.wWrite len)) len fun d =>
    s.writer.whenAttached (s.writer.writeBytes s.params.stagingMode s.params.writerEndian len d)
  · rw [e, Writer.requested_dropFrame]
    exact Writer.requested_whenAttached (fun att => Writer.requested_writeBytes att _ _ (by simpa using hlen))
      fun det => by simp [snkRequests, det]
  · omega

theorem exec_writerAsks {i : Instr} (hi : i.engine = .writer) (hne : i ≠ .wFlush) {s : State}
    (hdata : ∀ len, i = .wWrite len → len ≤ s.writer.dataIn.length) : s.WriterAsks i (exec i s) := by
  cases i with
  | wNew len =>
    unfold exec execWNew
    refine .onWriter ?_
    split <;> simp [snkRequests]
  | wWriteBit bit =>
    unfold exec execWWriteBit
    refine .whenAttached (fun det => by simp [snkRequests, det]) fun att => ?_
    dsimp only
    split
    · rename_i ho
      have hrow : snkRequests s.params.stagingMode s.writer (.wWriteBit bit) = [.write 1] :=
        if_pos ⟨att, BitVec.eq_of_toNat_eq ho⟩
      rw [hrow]
      exact Writer.requested_sinkByte fun q => by simp
    · rename_i ho
      have hrow : snkRequests s.params.stagingMode s.writer (.wWriteBit bit) = [] :=
        if_neg fun h => ho (by rw [h.2]; rfl)
      simp [hrow]
  | wWriteBits bits c =>
    unfold exec execWWriteBits
    refine .whenAttached (fun det => by simp [snkRequests, det]) fun att => ?_
    split
    · rename_i hc
      have hrow : snkRequests s.params.stagingMode s.writer (.wWriteBits bits c) = [] :=
        if_neg fun ⟨_, h, _⟩ => absurd (of_decide_eq_true hc) (by omega)
      simp [hrow]
    · rename_i hc
      have hc8 : c ≤ 8 := by simpa [countTooLarge] using hc
      unfold Writer.writeField
      dsimp only
      split
      · rename_i hfull
        have hrow : snkRequests s.params.stagingMode s.writer (.wWriteBits bits c) = [.write 1] :=
          if_pos ⟨att, hc8, hfull⟩
        rw [hrow]
        exact Writer.requested_sinkByte fun q => by simp
      · rename_i hfit
        have hrow : snkRequests s.params.stagingMode s.writer (.wWriteBits bits c) = [] := if_neg fun h => hfit h.2.2
        simp [hrow]
  | wIsAligned =>
    unfold exec execWIsAligned
    exact .of_noRow rfl (by simp)
  | wAlign =>
    unfold exec execWAlign
    exact .whenAttached partialRequest_of_detached fun att => Writer.requested_flushPartial att fun v => by simp
  | wGetRef =>
    unfold exec execWGetRef
    exact .of_noRow rfl (by simp)
  | wGetMut =>
    unfold exec execWGetMut
    refine .of_noRow rfl ?_
    split <;> simp
  | wGetMutUnchecked =>
    unfold exec execWGetMutUnchecked
    exact .of_noRow rfl (by simp)
  | wIntoInner =>
    unfold exec execWIntoInner
    exact .whenAttached partialRequest_of_detached fun att => Writer.requested_flushPartial att fun v => by simp
  | wWrite len => exact execWWrite_writerAsks (hdata len rfl)
  | wFlush => exact absurd rfl hne
  | wDrop =>
    unfold exec execWDrop
    refine .onWriter ?_
    split
    · rename_i att
      split
      · rename_i hal
        simp [snkRequests, partialRequest, Writer.aligned_eq_true.mp hal]
      · rename_i hal
        have hrow : snkRequests s.params.stagingMode s.writer .wDrop = [.write 1] :=
          if_pos ⟨att, mt Writer.aligned_eq_true.mpr hal⟩
        rw [hrow]
        exact Writer.requested_snkWrite (xs := [s.writer.buf]) fun a q => by simp
    · rename_i det
      simp [snkRequests, partialRequest, det]
  | _ => cases hi

/-! ## `W_FLUSH` (42_writer.md R183) -/

/-- The flush request of `W_FLUSH`, once the partial byte is written. -/
def Writer.requestFlush (w : Writer) : Writer :=
  w.snkFlush .wFlush fun a w' =>
    match a with
    | .err e => w'.raise (.ioError (.portError e))
    | .ok => w'.respond .okay

theorem exec_wFlush (s : State) :
    exec .wFlush s = .next (s.setWriter (s.writer.whenAttached
      (s.writer.flushPartial .wFlush .ioError Writer.requestFlush))) := rfl

theorem Writer.requested_requestFlush (w : Writer) : w.requestFlush.requested = w.port.asked ++ [.flush] :=
  Writer.requested_snkFlush fun a q => by cases a <;> simp

@[simp] theorem Writer.requestFlush_off (w : Writer) : w.requestFlush.off = w.off := by
  unfold Writer.requestFlush
  obtain ⟨-, e⟩ | ⟨a, -, e⟩ := w.snkFlush_cases .wFlush _ <;> rw [e]
  · rfl
  · cases a <;> rfl

/-- `W_FLUSH` of a partial byte stays unaligned without a flush request, or clears the cursor and makes it. -/
theorem Writer.requested_flush_of_unaligned {w : Writer} (ho : w.off ≠ 0) :
    let v := w.sinkByte .wFlush w.buf .ioError fun w' => (w'.setCursor 0 0).requestFlush
    (v.off ≠ 0 ∧ v.requested = w.port.asked ++ [.write 1]) ∨
      (v.off = 0 ∧ v.requested = w.port.asked ++ [.write 1] ++ [.flush]) := by
  dsimp only
  obtain ⟨-, e⟩ | ⟨-, e⟩ | ⟨-, e⟩ | ⟨_, -, e⟩ := w.sinkByte_cases .wFlush w.buf .ioError
    fun w' => (w'.setCursor 0 0).requestFlush <;> rw [e]
  · exact .inl ⟨ho, rfl⟩
  · refine .inr ⟨Writer.requestFlush_off _, ?_⟩
    rw [Writer.requested_requestFlush, Writer.setCursor_port, Writer.setPort_port, SnkPort.asked_after]
    rfl
  · exact .inl ⟨ho, by simp [SnkPort.asked_after]⟩
  · exact .inl ⟨ho, by simp [SnkPort.asked_after]⟩

/-- Settles O41: a writer command makes the requests of its row (`exec_writerAsks`), `W_FLUSH` its own too, and a reader
command does not reach the writer. -/
theorem sinkTransferTable : Obligations.SinkTransferTable := by
  intro i s t hexec
  dsimp only
  refine ⟨fun hi => ?_, fun hi hne hdata => ?_, ?_, ?_, ?_⟩
  · obtain ⟨f, hf⟩ := exec_eq_onReader hi
    rw [hf, State.onReader_eq_next] at hexec
    rw [hexec, State.setReader_writer]
  · obtain ⟨w, hw, e⟩ := exec_writerAsks hi hne hdata
    rw [e] at hexec
    cases hexec
    exact hw
  · rintro rfl det
    rw [exec_wFlush] at hexec
    cases hexec
    simp [Writer.whenAttached, snkRequests, partialRequest, det, SnkPort.asked]
  · rintro rfl att ho
    rw [exec_wFlush] at hexec
    cases hexec
    obtain ⟨-, e⟩ | ⟨hne, -⟩ := s.writer.flushPartial_cases .wFlush .ioError Writer.requestFlush
    · simp [Writer.whenAttached, att, e, snkRequests, partialRequest, ho, Writer.requested_requestFlush, SnkPort.asked]
    · exact absurd ho hne
  · rintro rfl att ho
    rw [exec_wFlush] at hexec
    cases hexec
    obtain ⟨hal, -⟩ | ⟨-, e⟩ := s.writer.flushPartial_cases .wFlush .ioError Writer.requestFlush
    · exact absurd hal ho
    · have hrow : snkRequests s.params.stagingMode s.writer .wFlush = [.write 1] := if_pos ⟨att, ho⟩
      rw [hrow, State.setWriter_writer, Writer.whenAttached, if_pos att, e]
      exact Writer.requested_flush_of_unaligned ho

end Sys2Proof.Machine
end

section
/-! SUPPORT. A released stream stays released under every command but `NEW` (20_memory.md R71). -/

namespace Sys2Proof.Machine

/-! ## The source -/

section
variable {r : Reader} (h : r.released = true)
include h

theorem Reader.released_whenAttached {k : Reader} (hk : k.released = true) : (r.whenAttached k).released = true := by
  obtain ⟨-, e⟩ | ⟨-, e⟩ := r.whenAttached_cases k <;> rw [e]
  · exact hk
  · exact h

theorem Reader.released_srcRead {i : Instr} {len : Nat} {k : SrcAnswer → Reader → Reader}
    (hk : ∀ a q, (k a (r.setPort q)).released = true) : (r.srcRead i len k).released = true := by
  obtain ⟨-, e⟩ | ⟨a, -, e⟩ := r.srcRead_cases i len k <;> rw [e]
  · exact h
  · exact hk a _

theorem Reader.released_fetchByte {i : Instr} {k : Byte → Reader → Reader}
    (hk : ∀ x q, (k x (r.setPort q)).released = true) : (r.fetchByte i k).released = true := by
  refine Reader.released_srcRead h fun a q => ?_
  match a with
  | .data (x :: _) => exact hk x q
  | .data [] => exact h
  | .err e => exact h

theorem Reader.released_readField (B : Endian) (c : Nat) : (r.readField B c).released = true := by
  unfold Reader.readField
  split
  · exact h
  · split
    · exact h
    · exact Reader.released_fetchByte h fun x q => h

end

/-- The outcome `x` replaces the reader of `s` by one whose source is the host's for good. -/
def State.KeepsSource (s : State) (x : Result State) : Prop :=
  ∃ r : Reader, r.released = true ∧ x = .next (s.setReader r)

theorem State.KeepsSource.onReader {s : State} {f : Params → Reader → Reader}
    (h : (f s.params s.reader).released = true) : s.KeepsSource (s.onReader f) := ⟨_, h, rfl⟩

theorem State.KeepsSource.whenAttached {s : State} {k : Params → Reader → Reader} (h : s.reader.released = true)
    (hk : (k s.params s.reader).released = true) :
    s.KeepsSource (s.onReader fun p r => r.whenAttached (k p r)) :=
  .onReader (Reader.released_whenAttached h hk)

/-- Of all reader commands only `R_NEW` takes a released source back. -/
theorem exec_keepsSource {s : State} (h : s.reader.released = true) {i : Instr} (hi : i.engine = .reader)
    (hne : i ≠ .rNew) : s.KeepsSource (exec i s) := by
  cases i with
  | rNew => exact absurd rfl hne
  | rReadBit =>
    unfold exec execRReadBit
    refine .whenAttached h ?_
    split
    · exact Reader.released_fetchByte h fun x q => h
    · exact h
  | rReadBits c =>
    unfold exec execRReadBits
    refine .whenAttached h ?_
    split
    · exact h
    · exact Reader.released_readField h _ c
  | rIsAligned =>
    unfold exec execRIsAligned
    exact .whenAttached h h
  | rAlign =>
    unfold exec execRAlign
    exact .whenAttached h h
  | rGetRef =>
    unfold exec execRGetRef
    exact .whenAttached h h
  | rGetMut =>
    unfold exec execRGetMut
    refine .whenAttached h ?_
    split <;> exact h
  | rGetMutUnchecked =>
    unfold exec execRGetMutUnchecked
    exact .whenAttached h h
  | rIntoInner =>
    unfold exec execRIntoInner
    exact .whenAttached h rfl
  | rRead len =>
    unfold exec execRRead
    refine .whenAttached h (Reader.released_srcRead h fun a q => ?_)
    cases a with
    | err e => exact h
    | data xs =>
      dsimp only
      split <;> exact h
  | rDrop =>
    unfold exec execRDrop
    refine .onReader ?_
    split <;> exact h
  | _ => cases hi

/-! ## The sink -/

section
variable {w : Writer} (h : w.released = true)
include h

theorem Writer.released_whenAttached {k : Writer} (hk : k.released = true) : (w.whenAttached k).released = true := by
  obtain ⟨-, e⟩ | ⟨-, e⟩ := w.whenAttached_cases k <;> rw [e]
  · exact hk
  · exact h

theorem Writer.released_snkWrite {i : Instr} {xs : List Byte} {k : SnkAnswer → Writer → Writer}
    (hk : ∀ a q, (k a (w.setPort q)).released = true) : (w.snkWrite i xs k).released = true := by
  obtain ⟨-, e⟩ | ⟨a, -, e⟩ := w.snkWrite_cases i xs k <;> rw [e]
  · exact h
  · exact hk a _

theorem Writer.released_requestFlush : w.requestFlush.released = true := by
  unfold Writer.requestFlush
  obtain ⟨-, e⟩ | ⟨a, -, e⟩ := w.snkFlush_cases .wFlush _ <;> rw [e]
  · exact h
  · cases a <;> exact h

theorem Writer.released_sinkByte {i : Instr} {b : Byte} {failed : IoCause → Status} {k : Writer → Writer}
    (hk : ∀ q, (k (w.setPort q)).released = true) : (w.sinkByte i b failed k).released = true := by
  refine Writer.released_snkWrite h fun a q => ?_
  match a with
  | .ack 0 => exact h
  | .ack (_ + 1) => exact hk q
  | .err e => exact h

theorem Writer.released_flushPartial {i : Instr} {failed : IoCause → Status} {k : Writer → Writer}
    (hk : ∀ v : Writer, v.released = true → (k v).released = true) : (w.flushPartial i failed k).released = true := by
  obtain ⟨-, e⟩ | ⟨-, e⟩ := w.flushPartial_cases i failed k <;> rw [e]
  · exact hk w h
  · exact Writer.released_sinkByte h fun q => hk _ h

theorem Writer.released_dropFrame (len : Nat) : (w.dropFrame len).released = true := by
  obtain ⟨-, e⟩ | ⟨-, e⟩ := w.dropFrame_cases len <;> rw [e] <;> exact h

theorem Writer.released_takeData {j : Job} {len : Nat} {k : List Byte → Writer} (hk : ∀ d, (k d).released = true) :
    (w.takeData j len k).released = true := by
  obtain ⟨-, e⟩ | ⟨-, e⟩ := w.takeData_cases j len k <;> rw [e]
  · exact Writer.released_dropFrame (hk _) len
  · exact h

theorem Writer.released_writeField (B : Endian) (bits : Byte) (c : Nat) :
    (w.writeField B bits c).released = true := by
  unfold Writer.writeField
  dsimp only
  split
  · exact Writer.released_sinkByte h fun q => h
  · exact h

theorem Writer.released_writeBytes (mode : StagingMode) (B : Endian) (len : Nat) (d : List Byte) :
    (w.writeBytes mode B len d).released = true := by
  unfold Writer.writeBytes
  split
  · refine Writer.released_snkWrite h fun a q => ?_
    cases a <;> exact h
  · refine Writer.released_snkWrite h fun a q => ?_
    match a with
    | .ack 0 => exact h
    | .ack (_ + 1) => exact h
    | .err e => exact h

end

/-- The outcome `x` replaces the writer of `s` by one whose sink is the host's for good. -/
def State.KeepsSink (s : State) (x : Result State) : Prop :=
  ∃ w : Writer, w.released = true ∧ x = .next (s.setWriter w)

theorem State.KeepsSink.onWriter {s : State} {f : Params → Writer → Writer}
    (h : (f s.params s.writer).released = true) : s.KeepsSink (s.onWriter f) := ⟨_, h, rfl⟩

theorem State.KeepsSink.whenAttached {s : State} {k : Params → Writer → Writer} (h : s.writer.released = true)
    (hk : (k s.params s.writer).released = true) :
    s.KeepsSink (s.onWriter fun p w => w.whenAttached (k p w)) :=
  .onWriter (Writer.released_whenAttached h hk)

/-- Of all writer commands only `W_NEW` takes a released sink back. -/
theorem exec_keepsSink {s : State} (h : s.writer.released = true) {i : Instr} (hi : i.engine = .writer)
    (hne : ∀ len, i ≠ .wNew len) : s.KeepsSink (exec i s) := by
  cases i with
  | wNew len => exact absurd rfl (hne len)
  | wWriteBit bit =>
    unfold exec execWWriteBit
    refine .whenAttached h ?_
    dsimp only
    split
    · exact Writer.released_sinkByte h fun q => h
    · exact h
  | wWriteBits bits c =>
    unfold exec execWWriteBits
    refine .whenAttached h ?_
    split
    · exact h
    · exact Writer.released_writeField h _ bits c
  | wIsAligned =>
    unfold exec execWIsAligned
    exact .whenAttached h h
  | wAlign =>
    unfold exec execWAlign
    exact .whenAttached h (Writer.released_flushPartial h fun v hv => hv)
  | wGetRef =>
    unfold exec execWGetRef
    exact .whenAttached h h
  | wGetMut =>
    unfold exec execWGetMut
    refine .whenAttached h ?_
    split <;> exact h
  | wGetMutUnchecked =>
    unfold exec execWGetMutUnchecked
    exact .whenAttached h h
  | wIntoInner =>
    unfold exec execWIntoInner
    exact .whenAttached h (Writer.released_flushPartial h fun v _ => rfl)
  | wWrite len =>
    unfold exec execWWrite
    exact .onWriter (Writer.released_takeData h fun d =>
      Writer.released_whenAttached h (Writer.released_writeBytes h _ _ len d))
  | wFlush =>
    unfold exec execWFlush
    exact .whenAttached h (Writer.released_flushPartial h fun v hv => Writer.released_requestFlush hv)
  | wDrop =>
    unfold exec execWDrop
    refine .onWriter ?_
    split
    · split
      · exact h
      · exact Writer.released_snkWrite h fun a q => h
    · exact h
  | _ => cases hi

theorem rejectFrame_keepsSink {s : State} (h : s.writer.released = true) (len : Nat) :
    s.KeepsSink (rejectFrame len s) := by
  unfold rejectFrame
  exact .onWriter (Writer.released_takeData h fun _ => h)

/-- No job of a writer but a `W_NEW` takes a released sink back. -/
theorem runJob_keepsSink {s : State} (h : s.writer.released = true) {j : Job} (hj : j.OfWriter)
    (hne : ∀ len, j ≠ .command (.wNew len)) : s.KeepsSink (runJob j s) := by
  cases j with
  | command i => exact exec_keepsSink h hj.2 fun len e => hne len (e ▸ rfl)
  | illegal len => exact rejectFrame_keepsSink h len

/-- A command that does not attach its engine keeps a released stream so, and one of the other does not reach it. -/
theorem exec_keeps_released {i : Instr} {s t : State} (e : exec i s = .next t) :
    (s.reader.released = true → i ≠ .rNew → t.reader.released = true) ∧
    (s.writer.released = true → (∀ len, i ≠ .wNew len) → t.writer.released = true) := by
  cases hi : i.engine with
  | reader =>
    obtain ⟨f, hf⟩ := exec_eq_onReader hi
    have ht := e
    rw [hf, State.onReader_eq_next] at ht
    refine ⟨fun h hne => ?_, fun h _ => ht ▸ h⟩
    obtain ⟨r, hr, er⟩ := exec_keepsSource h hi hne
    cases e.symm.trans er
    exact hr
  | writer =>
    obtain ⟨f, hf⟩ := exec_eq_onWriter hi
    have ht := e
    rw [hf, State.onWriter_eq_next] at ht
    refine ⟨fun h _ => ht ▸ h, fun h hne => ?_⟩
    obtain ⟨w, hw, ew⟩ := exec_keepsSink h hi hne
    cases e.symm.trans ew
    exact hw

end Sys2Proof.Machine
end

section
/-! SUPPORT. What each move of the world outside can do to each engine. -/

namespace Sys2Proof.Machine

/-! ## Moves -/

theorem step_of_host {s : State} {m : HostMove} {rest : List HostMove} (h : s.host = m :: rest) :
    step s = perform m (s.setHost rest) := by
  simp [step, h]

/-- A step makes no move, or the first of the coming ones. -/
theorem step_eq_next {s t : State} (e : step s = .next t) :
    (s.host = [] ∧ t = s) ∨ ∃ m rest, s.host = m :: rest ∧ perform m (s.setHost rest) = .next t := by
  cases hh : s.host with
  | nil =>
    rw [step, hh] at e
    cases e
    exact .inl ⟨rfl, rfl⟩
  | cons m rest => exact .inr ⟨m, rest, rfl, step_of_host hh ▸ e⟩

/-- A move that is not made leaves the machine as it is. -/
theorem whenMove_eq_next {ok : Bool} {s t : State} {k : Result State} (e : whenMove ok s k = .next t) :
    (ok = true ∧ k = .next t) ∨ t = s := by
  obtain ⟨hok, h⟩ | ⟨-, h⟩ := whenMove_cases ok s k <;> rw [h] at e
  · exact .inl ⟨hok, e⟩
  · cases e
    exact .inr rfl

/-- A writer's job is an operation on the writer. -/
theorem runJob_writer {j : Job} (hj : j.OfWriter) {s t : State} (e : runJob j s = .next t) :
    t = s.setWriter t.writer := by
  cases j with
  | command i =>
    obtain ⟨f, hf⟩ := exec_eq_onWriter hj.2
    rw [runJob, hf, State.onWriter_eq_next] at e
    rw [e]
    rfl
  | illegal len =>
    rw [runJob, rejectFrame, State.onWriter_eq_next] at e
    rw [e]
    rfl

/-- A reader command is an operation on the reader. -/
theorem exec_reader {i : Instr} (hi : i.engine = .reader) {s t : State} (e : exec i s = .next t) :
    t = s.setReader t.reader := by
  obtain ⟨f, hf⟩ := exec_eq_onReader hi
  rw [hf, State.onReader_eq_next] at e
  rw [e]
  rfl

/-- What the next move can make of the reader of `s`: it stays as it is, or it is `r` by a move that reaches it. -/
inductive State.ReaderMove (s : State) (r : Reader) : HostMove → Prop
  | same {m : HostMove} (e : r = s.reader) : s.ReaderMove r m
  | command {w : Word} {i : Instr} (idle : s.reader.rsp.isWaiting = false) (legal : decode .reader w = .ok i)
      (e : exec i s = .next (s.setReader r)) : s.ReaderMove r (.readerCommand w)
  | refused {w : Word} (idle : s.reader.rsp.isWaiting = false) (e : r = s.reader.raise .illegalCommand) :
      s.ReaderMove r (.readerCommand w)
  | answered {d : SrcDraw} {i : Instr} {len : Nat} (request : len ∈ srcRequests s.reader i)
      (e : exec i (s.setReader (s.reader.setPort (s.reader.port.decide d))) = .next (s.setReader r)) :
      s.ReaderMove r (.sourceAnswers d)
  | consumed {n : Nat} (may : s.reader.mayMutate = true) (e : r = s.reader.setPort (s.reader.port.consume n)) :
      s.ReaderMove r (.consumeSource n)
  | wired {xs : List Byte} {ds : List SrcDraw} (detached : s.reader.attached = false)
      (e : r = (s.reader.setPort (s.reader.port.wire xs ds)).setReleased false) : s.ReaderMove r (.wireSource xs ds)
  | reset (e : r = s.reader.powerOn) : s.ReaderMove r .powerOnReset

/-- What the next move can make of the writer of `s`: it stays as it is, or it is `w` by a move that reaches it. -/
inductive State.WriterMove (s : State) (w : Writer) : HostMove → Prop
  | same {m : HostMove} (e : w = s.writer) : s.WriterMove w m
  | command {word : Word} {data : List Byte} (idle : s.writer.rsp.isWaiting = false)
      (e : runJob (writerJob word) (s.sendData data) = .next (s.setWriter w)) :
      s.WriterMove w (.writerCommand word data)
  | supplied {xs : List Byte} {j : Job} {len : Nat} (waits : s.writer.rsp = .waiting j (.dataIn len))
      (e : runJob j (s.sendData xs) = .next (s.setWriter w)) : s.WriterMove w (.writerData xs)
  | answered {d : SnkDraw} {j : Job} {q : Request} (waits : s.writer.rsp = .waiting j q)
      (e : runJob j (s.setWriter (s.writer.setPort (s.writer.port.decide d))) = .next (s.setWriter w)) :
      s.WriterMove w (.sinkAnswers d)
  | appended {xs : List Byte} (may : s.writer.mayMutate = true) (e : w = s.writer.setPort (s.writer.port.append xs)) :
      s.WriterMove w (.appendSink xs)
  | wired {xs : List Byte} {ds : List SnkDraw} (detached : s.writer.attached = false)
      (e : w = (s.writer.setPort (s.writer.port.wire xs ds)).setReleased false) : s.WriterMove w (.wireSink xs ds)
  | reset (e : w = s.writer.powerOn) : s.WriterMove w .powerOnReset

/-- A word on the reader's command port. -/
theorem readerCommand_cases {s t : State} {w : Word} (e : perform (.readerCommand w) s = .next t) :
    s.ReaderMove t.reader (.readerCommand w) ∧ t.writer = s.writer := by
  obtain ⟨hidle, e⟩ | rfl := whenMove_eq_next e
  · have idle : s.reader.rsp.isWaiting = false := by simpa using hidle
    unfold acceptReaderWord at e
    split at e
    · rename_i i legal
      have hi := (decodeReaderRow_wellFormed (decode_reader_eq_ok.mp legal).2.2).2
      have ht := exec_reader hi e
      exact ⟨.command idle legal (ht ▸ e), by rw [ht]; rfl⟩
    · rw [State.onReader_eq_next] at e
      exact ⟨.refused idle (by rw [e]; rfl), by rw [e]; rfl⟩
  · exact ⟨.same rfl, rfl⟩

/-- A late answer of the source. -/
theorem sourceAnswers_cases {s t : State} (h : s.reader.WaitLegal) {d : SrcDraw}
    (e : sourceAnswers d s = .next t) :
    s.ReaderMove t.reader (.sourceAnswers d) ∧ t.writer = s.writer := by
  unfold sourceAnswers at e
  split at e
  · rename_i j len waits
    obtain ⟨i, len, rfl, -, -, request⟩ := h _ _ waits
    have ht := exec_reader (engine_of_srcRequests request) e
    exact ⟨.answered request (e.trans (congrArg _ ht)), by rw [ht]; rfl⟩
  · cases e
    exact ⟨.same rfl, rfl⟩

/-- A word on the writer's command port. -/
theorem writerCommand_cases {s t : State} {w : Word} {data : List Byte}
    (e : perform (.writerCommand w data) s = .next t) :
    s.WriterMove t.writer (.writerCommand w data) ∧ t.reader = s.reader := by
  obtain ⟨hok, e⟩ | rfl := whenMove_eq_next e
  · obtain ⟨hidle, -⟩ := Bool.and_eq_true_iff.mp hok
    have ht := runJob_writer (writerJob_ofWriter w).1 e
    exact ⟨.command (by simpa using hidle) (e.trans (congrArg _ ht)), by rw [ht]; rfl⟩
  · exact ⟨.same rfl, rfl⟩

/-- More bytes of an outstanding frame. -/
theorem supplyData_cases {s t : State} (h : s.writer.Inv s.params) {xs : List Byte}
    (e : supplyData xs s = .next t) :
    s.WriterMove t.writer (.writerData xs) ∧ t.reader = s.reader := by
  unfold supplyData at e
  split at e
  · rename_i j len waits
    obtain ⟨-, e⟩ | rfl := whenMove_eq_next e
    · have ht := runJob_writer (h.ofWriter_of_waiting waits).1 e
      exact ⟨.supplied waits (e.trans (congrArg _ ht)), by rw [ht]; rfl⟩
    · exact ⟨.same rfl, rfl⟩
  · cases e
    exact ⟨.same rfl, rfl⟩

/-- A late answer of the sink. -/
theorem sinkAnswers_cases {s t : State} (h : s.writer.Inv s.params) {d : SnkDraw}
    (e : sinkAnswers d s = .next t) :
    s.WriterMove t.writer (.sinkAnswers d) ∧ t.reader = s.reader := by
  have resumed {j : Job} {q : Request} (waits : s.writer.rsp = .waiting j q)
      (e : runJob j (s.setWriter (s.writer.setPort (s.writer.port.decide d))) = .next t) :
      s.WriterMove t.writer (.sinkAnswers d) ∧ t.reader = s.reader := by
    have ht := runJob_writer (h.ofWriter_of_waiting waits).1 e
    exact ⟨.answered waits (e.trans (congrArg _ ht)), by rw [ht]; rfl⟩
  unfold sinkAnswers at e
  split at e
  · exact resumed ‹_› e
  · exact resumed ‹_› e
  · cases e
    exact ⟨.same rfl, rfl⟩

/-- Every move reaches an engine in one of the ways listed, or leaves it as it is. -/
theorem perform_cases {s t : State} (h : s.Inv) {m : HostMove} (e : perform m s = .next t) :
    s.ReaderMove t.reader m ∧ s.WriterMove t.writer m := by
  obtain ⟨hr, hw⟩ := State.inv_iff.mp h
  cases m with
  | readerCommand w => exact (readerCommand_cases e).imp_right .same
  | sourceAnswers d => exact (sourceAnswers_cases hr.waits e).imp_right .same
  | writerCommand w data => exact (writerCommand_cases e).symm.imp_left .same
  | writerData xs => exact (supplyData_cases hw e).symm.imp_left .same
  | sinkAnswers d => exact (sinkAnswers_cases hw e).symm.imp_left .same
  | inspectSource | inspectSink | flushSink =>
    obtain ⟨-, e⟩ | rfl := whenMove_eq_next e
    · cases e
      exact ⟨.same rfl, .same rfl⟩
    · exact ⟨.same rfl, .same rfl⟩
  | consumeSource n =>
    obtain ⟨may, e⟩ | rfl := whenMove_eq_next e
    · cases e
      exact ⟨.consumed may rfl, .same rfl⟩
    · exact ⟨.same rfl, .same rfl⟩
  | appendSink xs =>
    obtain ⟨may, e⟩ | rfl := whenMove_eq_next e
    · cases e
      exact ⟨.same rfl, .appended may rfl⟩
    · exact ⟨.same rfl, .same rfl⟩
  | wireSource xs ds =>
    obtain ⟨hd, e⟩ | rfl := whenMove_eq_next e
    · cases e
      exact ⟨.wired (by simpa using hd) rfl, .same rfl⟩
    · exact ⟨.same rfl, .same rfl⟩
  | wireSink xs ds =>
    obtain ⟨hd, e⟩ | rfl := whenMove_eq_next e
    · cases e
      exact ⟨.same rfl, .wired (by simpa using hd) rfl⟩
    · exact ⟨.same rfl, .same rfl⟩
  | powerOnReset =>
    cases e
    exact ⟨.reset rfl, .reset rfl⟩

end Sys2Proof.Machine
end

section
/-! SUPPORT. The host's direct access to the streams (20_memory.md R70 to R72), and engines that wait (R63). -/

namespace Sys2Proof.Machine

/-! ## Windows (20_memory.md R70) -/

theorem Grant.admitsInspection_iff {g : Grant} : g.admitsInspection = true ↔ g ∈ [.ref, .mut, .mutUnchecked] := by
  cases g <;> decide

theorem Grant.admitsMutation_iff {g : Grant} : g.admitsMutation = true ↔ g ∈ [.mut, .mutUnchecked] := by
  cases g <;> decide

/-- A window is one that the last response opened. -/
theorem Reply.grant_mem_iff {y : Reply} {gs : List Grant} (h : .none ∉ gs) :
    y.grant ∈ gs ↔ ∃ p, y = .response p ∧ p.grant ∈ gs := by
  cases y <;> simp [h]

theorem Reader.mayInspect_iff {r : Reader} : r.mayInspect = true ↔
    r.released = true ∨ ∃ p, r.rsp = .response p ∧ p.grant ∈ [.ref, .mut, .mutUnchecked] := by
  rw [Reader.mayInspect, Bool.or_eq_true, Grant.admitsInspection_iff, Reply.grant_mem_iff (by decide)]

theorem Reader.mayMutate_iff {r : Reader} : r.mayMutate = true ↔
    r.released = true ∨ ∃ p, r.rsp = .response p ∧ p.grant ∈ [.mut, .mutUnchecked] := by
  rw [Reader.mayMutate, Bool.or_eq_true, Grant.admitsMutation_iff, Reply.grant_mem_iff (by decide)]

theorem Writer.mayInspect_iff {w : Writer} : w.mayInspect = true ↔
    w.released = true ∨ ∃ p, w.rsp = .response p ∧ p.grant ∈ [.ref, .mut, .mutUnchecked] := by
  rw [Writer.mayInspect, Bool.or_eq_true, Grant.admitsInspection_iff, Reply.grant_mem_iff (by decide)]

theorem Writer.mayMutate_iff {w : Writer} : w.mayMutate = true ↔
    w.released = true ∨ ∃ p, w.rsp = .response p ∧ p.grant ∈ [.mut, .mutUnchecked] := by
  rw [Writer.mayMutate, Bool.or_eq_true, Grant.admitsMutation_iff, Reply.grant_mem_iff (by decide)]

/-- A step whose move is made only if it may be is the move's effect if it may, and otherwise nothing. -/
theorem step_whenMove {s t u : State} {m : HostMove} {rest : List HostMove} {ok : Bool} {may : Prop}
    (hhost : s.host = m :: rest) (hm : perform m (s.setHost rest) = whenMove ok (s.setHost rest) (.next t))
    (hmay : ok = true ↔ may) (hu : t = u) :
    (may → step s = .next u) ∧ (¬ may → step s = .next { s with host := rest }) := by
  rw [step_of_host hhost, hm, hu, ← hmay]
  exact ⟨fun h => if_pos h, fun h => if_neg h⟩

/-! ## Released streams -/

/-- What a waiting writer waits to do is no `W_NEW`, which waits for nothing. -/
theorem Writer.WaitLegal.ne_wNew {p : Params} {w : Writer} (h : w.WaitLegal p) {j : Job} {q : Request}
    (e : w.rsp = .waiting j q) (len : Nat) : j ≠ .command (.wNew len) := by
  rintro rfl
  obtain ⟨-, hq⟩ := h _ _ e
  cases q <;> simp [Writer.firstOffer] at hq

theorem writerJob_eq_command {w : Word} {i : Instr} : writerJob w = .command i ↔ decode .writer w = .ok i := by
  unfold writerJob
  split <;> simp [*]

/-- A released source stays released under every move but the word of an `R_NEW` and a rewiring. -/
theorem State.ReaderMove.released {s : State} {r : Reader} {m : HostMove} (h : s.ReaderMove r m)
    (hrel : s.reader.released = true) (hnew : ∀ w, m = .readerCommand w → decode .reader w ≠ .ok .rNew)
    (hwire : ∀ xs ds, m ≠ .wireSource xs ds) : r.released = true := by
  cases h with
  | same e => exact e ▸ hrel
  | command _ legal e => exact (exec_keeps_released e).1 hrel fun hi => hnew _ rfl (hi ▸ legal)
  | refused _ e => exact e ▸ hrel
  | answered request e => exact (exec_keeps_released e).1 hrel fun hi => by simp [hi, srcRequests] at request
  | consumed _ e => exact e ▸ hrel
  | wired => exact absurd rfl (hwire _ _)
  | reset e => exact e ▸ hrel

/-- A released sink stays released under every move but the word of a `W_NEW` and a rewiring. -/
theorem State.WriterMove.released {s : State} {w : Writer} {m : HostMove} (h : s.WriterMove w m)
    (hinv : s.writer.Inv s.params) (hrel : s.writer.released = true)
    (hnew : ∀ word data len, m = .writerCommand word data → decode .writer word ≠ .ok (.wNew len))
    (hwire : ∀ xs ds, m ≠ .wireSink xs ds) : w.released = true := by
  have ran {s' : State} (h' : s'.writer.released = true) {j : Job} (hj : j.OfWriter)
      (hne : ∀ len, j ≠ .command (.wNew len)) (e : runJob j s' = .next (s.setWriter w)) : w.released = true := by
    obtain ⟨v, hv, e'⟩ := runJob_keepsSink h' hj hne
    have hwriter := congrArg State.writer (Host.Outcome.next.inj (e.symm.trans e'))
    exact (congrArg Writer.released hwriter).trans hv
  cases h with
  | same e => exact e ▸ hrel
  | @command word data _ e =>
    exact ran (s' := s.sendData data) hrel (writerJob_ofWriter word).1
      (fun len hj => hnew word data len rfl (writerJob_eq_command.mp hj)) e
  | @supplied xs j len waits e =>
    exact ran (s' := s.sendData xs) hrel (hinv.ofWriter_of_waiting waits).1 (hinv.waits.ne_wNew waits) e
  | @answered d j q waits e =>
    exact ran (s' := s.setWriter (s.writer.setPort (s.writer.port.decide d))) hrel (hinv.ofWriter_of_waiting waits).1
      (hinv.waits.ne_wNew waits) e
  | appended _ e => exact e ▸ hrel
  | wired => exact absurd rfl (hwire _ _)
  | reset e => exact e ▸ hrel

/-- Settles O54: each direct move is made exactly if it may be (`step_whenMove`), commands keep a released stream so
(`exec_keeps_released`), and so do the moves that are listed for each engine. -/
theorem directAccessFollowsTheGrant : Obligations.DirectAccessFollowsTheGrant := by
  refine ⟨?_, fun i s t e => exec_keeps_released e, fun s t hinv e => ?_⟩
  · intro s rest n xs sd kd
    dsimp only
    refine ⟨fun h => ?_, fun h => ?_, fun h => ?_, fun h => ?_, fun h => ?_, fun h => ?_, fun h => ?_⟩
    · exact step_whenMove h rfl Reader.mayMutate_iff rfl
    · exact step_whenMove h rfl Writer.mayMutate_iff rfl
    · exact step_whenMove h rfl Writer.mayMutate_iff rfl
    · exact step_whenMove h rfl Reader.mayInspect_iff rfl
    · exact step_whenMove h rfl Writer.mayInspect_iff rfl
    · exact step_whenMove h rfl (by simp) rfl
    · exact step_whenMove h rfl (by simp) rfl
  · obtain ⟨-, rfl⟩ | ⟨m, rest, hhost, e⟩ := step_eq_next e
    · exact ⟨fun hrel _ _ => hrel, fun hrel _ _ => hrel⟩
    · obtain ⟨hreader, hwriter⟩ := perform_cases hinv.setHost e
      refine ⟨fun hrel hnew hwire => ?_, fun hrel hnew hwire => ?_⟩
      · exact hreader.released hrel (fun w hm => hnew w rest (hm ▸ hhost)) fun xs ds hm => hwire xs ds rest (hm ▸ hhost)
      · exact hwriter.released (State.inv_iff.mp hinv).2 hrel
          (fun word data len hm => hnew word data rest len (hm ▸ hhost)) fun xs ds hm => hwire xs ds rest (hm ▸ hhost)

/-! ## Waiting engines (20_memory.md R63) -/

/-- A waiting reader is attached. -/
theorem Reader.WaitLegal.attached {r : Reader} (h : r.WaitLegal) (hwait : r.rsp.isWaiting = true) :
    r.attached = true := by
  cases e : r.rsp with
  | waiting j q =>
    obtain ⟨i, len, -, -, -, request⟩ := h _ _ e
    by_contra hdet
    cases i <;> simp [srcRequests, hdet] at request
  | _ => simp [e] at hwait

/-- A waiting engine has no window open. -/
theorem Reply.grant_of_isWaiting {y : Reply} (h : y.isWaiting = true) : y.grant = .none := by
  cases y with
  | waiting j q => rfl
  | _ => cases h

/-- The host may not touch the source of a reader that is waiting. -/
theorem Reader.Inv.mayMutate_of_waiting {r : Reader} (h : r.Inv) (hwait : r.rsp.isWaiting = true) :
    r.mayMutate = false := by
  have hrel : r.released = false := by
    by_contra hrel
    have := h.released (by simpa using hrel)
    simp [h.waits.attached hwait] at this
  simp [Reader.mayMutate, hrel, Reply.grant_of_isWaiting hwait, Grant.admitsMutation]

/-- The host may not touch the sink of an attached writer that is waiting. -/
theorem Writer.Inv.mayMutate_of_waiting {p : Params} {w : Writer} (h : w.Inv p) (hwait : w.rsp.isWaiting = true)
    (att : w.attached = true) : w.mayMutate = false := by
  have hrel : w.released = false := by
    by_contra hrel
    have := h.released (by simpa using hrel)
    simp [att] at this
  simp [Writer.mayMutate, hrel, Reply.grant_of_isWaiting hwait, Grant.admitsMutation]

/-- Only the source's answer and power-on reset reach a waiting reader. -/
theorem State.ReaderMove.eq_of_waiting {s : State} {r : Reader} {m : HostMove} (h : s.ReaderMove r m)
    (hinv : s.reader.Inv) (hwait : s.reader.rsp.isWaiting = true) (hanswer : ∀ d, m ≠ .sourceAnswers d)
    (hreset : m ≠ .powerOnReset) : r = s.reader := by
  cases h with
  | same e => exact e
  | command idle => simp [hwait] at idle
  | refused idle => simp [hwait] at idle
  | answered => exact absurd rfl (hanswer _)
  | consumed may => simp [hinv.mayMutate_of_waiting hwait] at may
  | wired det => simp [hinv.waits.attached hwait] at det
  | reset => exact absurd rfl hreset

/-- Only the sink's answer, data bytes and power-on reset reach a waiting writer, but that the host may use or exchange
the sink of a detached one. -/
theorem State.WriterMove.eq_of_waiting {s : State} {w : Writer} {m : HostMove} (h : s.WriterMove w m)
    (hinv : s.writer.Inv s.params) (hwait : s.writer.rsp.isWaiting = true) (hanswer : ∀ d, m ≠ .sinkAnswers d)
    (hdata : ∀ xs, m ≠ .writerData xs) (hreset : m ≠ .powerOnReset) :
    w = { s.writer with port := w.port, released := w.released } ∧ (s.writer.attached = true → w = s.writer) := by
  cases h with
  | same e => exact ⟨e ▸ rfl, fun _ => e⟩
  | command idle => simp [hwait] at idle
  | supplied => exact absurd rfl (hdata _)
  | answered => exact absurd rfl (hanswer _)
  | appended may e => exact ⟨e ▸ rfl, fun att => by simp [hinv.mayMutate_of_waiting hwait att] at may⟩
  | wired det e => exact ⟨e ▸ rfl, fun att => by simp [att] at det⟩
  | reset => exact absurd rfl hreset

/-- Settles O58: of the moves that can reach an engine (`perform_cases`), a waiting one admits those named. -/
theorem waitingEngineStaysWaiting : Obligations.WaitingEngineStaysWaiting := by
  intro s t hinv e
  obtain ⟨-, rfl⟩ | ⟨m, rest, hhost, e⟩ := step_eq_next e
  · exact ⟨fun _ _ _ => rfl, fun _ _ _ _ => ⟨rfl, fun _ => rfl⟩⟩
  · obtain ⟨hr, hw⟩ := State.inv_iff.mp hinv
    obtain ⟨hreader, hwriter⟩ := perform_cases hinv.setHost e
    refine ⟨fun hwait hanswer hreset => ?_, fun hwait hanswer hdata hreset => ?_⟩
    · exact hreader.eq_of_waiting hr hwait (fun d hm => hanswer d rest (hm ▸ hhost)) fun hm => hreset rest (hm ▸ hhost)
    · exact hwriter.eq_of_waiting hw hwait (fun d hm => hanswer d rest (hm ▸ hhost))
        (fun xs hm => hdata xs rest (hm ▸ hhost)) fun hm => hreset rest (hm ▸ hhost)

end Sys2Proof.Machine
end

section
/-! SUPPORT. The command word as its six fields (30_encoding.md R80): what is said of a word is said field by field. -/

namespace Sys2Proof.Machine

/-! ## The six fields of a word -/

theorem append_eq_append_iff {m n : Nat} {x x' : BitVec m} {y y' : BitVec n} :
    x ++ y = x' ++ y' ↔ x = x' ∧ y = y' := by
  refine ⟨fun h => ⟨?_, ?_⟩, fun ⟨hx, hy⟩ => hx ▸ hy ▸ rfl⟩
  · simpa [BitVec.extractLsb'_append_eq_left] using congrArg (BitVec.extractLsb' n m) h
  · simpa [BitVec.extractLsb'_append_eq_right] using congrArg (BitVec.extractLsb' 0 n) h

/-- A word is its six fields, from `IMM16` down to `OP`. -/
theorem eq_append_fields (w : Word) : w = w.extractLsb' 16 16 ++ w.extractLsb' 12 4 ++ w.extractLsb' 8 4 ++
    w.extractLsb' 5 3 ++ w.extractLsb' 4 1 ++ w.extractLsb' 0 4 := by
  have join {a b m n : Nat} (h : a = b + n) :=
    BitVec.extractLsb'_append_extractLsb'_eq_extractLsb' (x := w) (len₂ := m) h
  rw [join (a := 16) (b := 12) rfl, join (a := 12) (b := 8) rfl, join (a := 8) (b := 5) rfl, join (a := 5) (b := 4) rfl,
    join (a := 4) (b := 0) rfl]
  exact BitVec.extractLsb'_eq_self.symm

theorem eq_append_iff {w : Word} {imm : BitVec 16} {hi cnt : BitVec 4} {lo : BitVec 3} {u : BitVec 1} {op : BitVec 4} :
    w = imm ++ hi ++ cnt ++ lo ++ u ++ op ↔ w.extractLsb' 16 16 = imm ∧ w.extractLsb' 12 4 = hi ∧
      w.extractLsb' 8 4 = cnt ∧ w.extractLsb' 5 3 = lo ∧ w.extractLsb' 4 1 = u ∧ w.extractLsb' 0 4 = op := by
  simp only [← and_assoc]
  simp only [← append_eq_append_iff]
  rw [← eq_append_fields]

/-- The bits of a word from 16 on are those of its `IMM16`. -/
theorem extractLsb'_imm (w : Word) (s : Nat) {n : Nat} (h : s + n ≤ 16) :
    w.extractLsb' (16 + s) n = (w.extractLsb' 16 16).extractLsb' s n := by
  ext k hk
  simp only [BitVec.getElem_extractLsb', BitVec.getLsbD_extractLsb', show s + k < 16 by omega, decide_true,
    Bool.true_and, Nat.add_assoc]

/-! ## The fields by their names (R80, R94) -/

theorem ofNat_opField (w : Word) : BitVec.ofNat 4 (opField w) = w.extractLsb' 0 4 := by
  rw [opField, BitVec.ofNat_toNat, BitVec.setWidth_eq]

theorem ofNat_cntField (w : Word) : BitVec.ofNat 4 (cntField w) = w.extractLsb' 8 4 := by
  rw [cntField, BitVec.ofNat_toNat, BitVec.setWidth_eq]

theorem ofNat_lenField (w : Word) : BitVec.ofNat 16 (lenField w) = w.extractLsb' 16 16 := by
  rw [lenField, BitVec.ofNat_toNat, BitVec.setWidth_eq]

theorem ofBool_bitField (w : Word) : BitVec.ofBool (bitField w) = w.extractLsb' 16 1 := by
  rw [bitField, BitVec.getLsbD_eq_extractLsb']
  obtain h | h := BitVec.eq_zero_or_eq_one (w.extractLsb' 16 1) <;> rw [h] <;> rfl

theorem cntField_eq_zero {w : Word} : cntField w = 0 ↔ w.extractLsb' 8 4 = 0#4 := BitVec.toNat_inj (y := 0#4)

theorem lenField_eq_zero {w : Word} : lenField w = 0 ↔ w.extractLsb' 16 16 = 0#16 := BitVec.toNat_inj (y := 0#16)

theorem reservedClear_iff {w : Word} : reservedClear w = true ↔ w.extractLsb' 5 3 = 0#3 ∧ w.extractLsb' 12 4 = 0#4 := by
  simp [reservedClear]

/-- The value of `U` that names an engine (R80). -/
def unitBit : Engine → BitVec 1
  | .reader => 0
  | .writer => 1

theorem unitField_eq_iff {w : Word} {e : Engine} : unitField w = e ↔ w.extractLsb' 4 1 = unitBit e := by
  rw [unitField, BitVec.getLsbD_eq_extractLsb']
  obtain hu | hu := BitVec.eq_zero_or_eq_one (w.extractLsb' 4 1) <;> rw [hu] <;> cases e <;> decide

/-! ## The fields of `commandWord` -/

theorem eq_commandWord_iff {w : Word} {imm : BitVec 16} {cnt : BitVec 4} {u : BitVec 1} {op : BitVec 4} :
    w = commandWord imm cnt u op ↔ reservedClear w = true ∧ w.extractLsb' 4 1 = u ∧ w.extractLsb' 0 4 = op ∧
      w.extractLsb' 8 4 = cnt ∧ w.extractLsb' 16 16 = imm := by
  rw [commandWord, eq_append_iff, reservedClear_iff]
  tauto

section
variable (imm : BitVec 16) (cnt : BitVec 4) (u : BitVec 1) (op : BitVec 4)

@[simp] theorem opField_commandWord : opField (commandWord imm cnt u op) = op.toNat := by
  obtain ⟨-, -, hop, -, -⟩ := eq_commandWord_iff.mp (Eq.refl (commandWord imm cnt u op))
  rw [opField, hop]

@[simp] theorem cntField_commandWord : cntField (commandWord imm cnt u op) = cnt.toNat := by
  obtain ⟨-, -, -, hcnt, -⟩ := eq_commandWord_iff.mp (Eq.refl (commandWord imm cnt u op))
  rw [cntField, hcnt]

theorem imm_commandWord : (commandWord imm cnt u op).extractLsb' 16 16 = imm := by
  obtain ⟨-, -, -, -, himm⟩ := eq_commandWord_iff.mp (Eq.refl (commandWord imm cnt u op))
  exact himm

@[simp] theorem lenField_commandWord : lenField (commandWord imm cnt u op) = imm.toNat := by
  rw [lenField, imm_commandWord]

@[simp] theorem bitsField_commandWord : bitsField (commandWord imm cnt u op) = imm.extractLsb' 0 8 := by
  rw [bitsField, extractLsb'_imm _ 0 (by decide), imm_commandWord]

end

end Sys2Proof.Machine
end

section
/-! SUPPORT. Decoding and encoding undo each other, format by format (30_encoding.md R80 to R88). -/

namespace Sys2Proof.Machine

/-! ## Decoding what was encoded -/

section
variable (u : BitVec 1) (op : BitVec 4)

theorem formatN_commandWord (i : Instr) : formatN (commandWord 0#16 0#4 u op) i = .ok i := by
  simp [formatN_eq_ok]

theorem formatC_commandWord {c : Nat} (hc : c ≤ 15) (f : Nat → Instr) :
    formatC (commandWord 0#16 (BitVec.ofNat 4 c) u op) f = .ok (f c) := by
  simp [formatC_eq_ok, Nat.mod_eq_of_lt (Nat.lt_succ_of_le hc)]

theorem formatD_commandWord (bits : Byte) {c : Nat} (hc : c ≤ 15) (f : Byte → Nat → Instr) :
    formatD (commandWord (0#8 ++ bits) (BitVec.ofNat 4 c) u op) f = .ok (f bits c) := by
  have hhigh : (commandWord (0#8 ++ bits) (BitVec.ofNat 4 c) u op).extractLsb' 24 8 = 0#8 := by
    rw [extractLsb'_imm _ 8 (by decide), imm_commandWord, BitVec.extractLsb'_append_eq_left]
  have hbits : (0#8 ++ bits).extractLsb' 0 8 = bits := BitVec.extractLsb'_append_eq_right
  simp [formatD_eq_ok, hhigh, hbits, Nat.mod_eq_of_lt (Nat.lt_succ_of_le hc)]

theorem formatB_commandWord (b : Bool) (f : Bool → Instr) :
    formatB (commandWord (0#15 ++ BitVec.ofBool b) 0#4 u op) f = .ok (f b) := by
  have hhigh : (commandWord (0#15 ++ BitVec.ofBool b) 0#4 u op).extractLsb' 17 15 = 0#15 := by
    rw [extractLsb'_imm _ 1 (by decide), imm_commandWord, BitVec.extractLsb'_append_eq_left]
  have hbit : bitField (commandWord (0#15 ++ BitVec.ofBool b) 0#4 u op) = b := by
    rw [← BitVec.ofBool_eq_iff_eq, ofBool_bitField, extractLsb'_imm _ 0 (by decide), imm_commandWord,
      BitVec.extractLsb'_append_eq_right]
  simp [formatB_eq_ok, hhigh, hbit]

theorem formatL_commandWord {len : Nat} (hlen : len ≤ 65535) (f : Nat → Instr) :
    formatL (commandWord (BitVec.ofNat 16 len) 0#4 u op) f = .ok (f len) := by
  simp [formatL_eq_ok, Nat.mod_eq_of_lt (Nat.lt_succ_of_le hlen)]

end

/-- The word of every command names its unit and has clear reserved fields. -/
theorem encode_frame (i : Instr) : unitField (encode i) = i.engine ∧ reservedClear (encode i) = true := by
  cases i with
  | rNew | rReadBit | rReadBits | rIsAligned | rAlign | rGetRef | rGetMut | rGetMutUnchecked | rIntoInner | rRead
  | rDrop => exact Laws.EncodeFrame.of_reader rfl rfl
  | _ => exact Laws.EncodeFrame.of_writer rfl rfl

theorem decodeReaderRow_encode {i : Instr} (wf : i.wellFormed = true) (hi : i.engine = .reader) :
    decodeReaderRow (encode i) = .ok i := by
  cases i with
  | rNew | rReadBit | rIsAligned | rAlign | rGetRef | rGetMut | rGetMutUnchecked | rIntoInner | rDrop =>
    simp [encode, decodeReaderRow, formatN_commandWord]
  | rReadBits c => simp [encode, decodeReaderRow, formatC_commandWord _ _ (of_decide_eq_true wf)]
  | rRead len => simp [encode, decodeReaderRow, formatL_commandWord _ _ (of_decide_eq_true wf)]
  | _ => cases hi

theorem decodeWriterRow_encode {i : Instr} (wf : i.wellFormed = true) (hi : i.engine = .writer) :
    decodeWriterRow (encode i) = .ok i := by
  cases i with
  | wIsAligned | wAlign | wGetRef | wGetMut | wGetMutUnchecked | wIntoInner | wFlush | wDrop =>
    simp [encode, decodeWriterRow, formatN_commandWord]
  | wWriteBits bits c => simp [encode, decodeWriterRow, formatD_commandWord _ _ _ (of_decide_eq_true wf)]
  | wWriteBit b => simp [encode, decodeWriterRow, formatB_commandWord]
  | wNew len | wWrite len => simp [encode, decodeWriterRow, formatL_commandWord _ _ (of_decide_eq_true wf)]
  | _ => cases hi

/-- Settles O1: the word names the command's unit and is clear where it must be (`encode_frame`), and each format reads
its operands back out of the fields they were put in. -/
theorem decodeOfEncode : Obligations.DecodeOfEncode := by
  intro i wf
  obtain ⟨hunit, hclear⟩ := encode_frame i
  cases hi : i.engine with
  | reader => exact decode_reader_eq_ok.mpr ⟨hunit.trans hi, hclear, decodeReaderRow_encode wf hi⟩
  | writer => exact decode_writer_eq_ok.mpr ⟨hunit.trans hi, hclear, decodeWriterRow_encode wf hi⟩

/-- Settles O4: a legal word is the encoding of what it stands for, and the illegal ones are decoded. -/
theorem sampleWordsDecode : Obligations.SampleWordsDecode := by
  refine ⟨decodeOfEncode .rNew rfl, decodeOfEncode (.rReadBits 8) rfl, decodeOfEncode (.rRead 4) rfl,
    decodeOfEncode (.wNew 4) rfl, decodeOfEncode (.wWriteBit true) rfl, decodeOfEncode (.wWriteBits 0xBC 8) rfl,
    decodeOfEncode .wFlush rfl, ?_⟩
  decide

/-! ## Encoding what was decoded

Each format takes every bit of `CNT` and `IMM16`, as an operand or as bits that must be 0, so the word is made of what
the decoder has read. -/

section
variable {w : Word} {u : BitVec 1} {op : Nat} (hclear : reservedClear w = true) (hunit : w.extractLsb' 4 1 = u)
  (hop : opField w = op)
include hclear hunit hop

theorem commandWord_eq {imm : BitVec 16} {cnt : BitVec 4} (hcnt : w.extractLsb' 8 4 = cnt)
    (himm : w.extractLsb' 16 16 = imm) : commandWord imm cnt u (BitVec.ofNat 4 op) = w :=
  (eq_commandWord_iff.mpr ⟨hclear, hunit, by rw [← hop, ofNat_opField], hcnt, himm⟩).symm

theorem encode_of_formatN {i j : Instr} (h : formatN w j = .ok i)
    (hj : encode j = commandWord 0 0 u (BitVec.ofNat 4 op)) : encode i = w := by
  obtain ⟨⟨hcnt, himm⟩, rfl⟩ := formatN_eq_ok.mp h
  exact hj.trans (commandWord_eq hclear hunit hop (cntField_eq_zero.mp hcnt) (lenField_eq_zero.mp himm))

theorem encode_of_formatC {i : Instr} {f : Nat → Instr} (h : formatC w f = .ok i)
    (hf : ∀ c, encode (f c) = commandWord 0 (BitVec.ofNat 4 c) u (BitVec.ofNat 4 op)) : encode i = w := by
  obtain ⟨himm, rfl⟩ := formatC_eq_ok.mp h
  exact (hf _).trans (commandWord_eq hclear hunit hop (ofNat_cntField w).symm (lenField_eq_zero.mp himm))

theorem encode_of_formatD {i : Instr} {f : Byte → Nat → Instr} (h : formatD w f = .ok i)
    (hf : ∀ v c, encode (f v c) = commandWord (0#8 ++ v) (BitVec.ofNat 4 c) u (BitVec.ofNat 4 op)) : encode i = w := by
  obtain ⟨hhigh, rfl⟩ := formatD_eq_ok.mp h
  have himm : w.extractLsb' 24 8 ++ bitsField w = w.extractLsb' 16 16 :=
    BitVec.extractLsb'_append_extractLsb'_eq_extractLsb' (start₁ := 16) (len₁ := 8) (len₂ := 8) rfl
  rw [hhigh] at himm
  exact (hf _ _).trans (commandWord_eq hclear hunit hop (ofNat_cntField w).symm himm.symm)

theorem encode_of_formatB {i : Instr} {f : Bool → Instr} (h : formatB w f = .ok i)
    (hf : ∀ b, encode (f b) = commandWord (0#15 ++ BitVec.ofBool b) 0 u (BitVec.ofNat 4 op)) : encode i = w := by
  obtain ⟨⟨hcnt, hhigh⟩, rfl⟩ := formatB_eq_ok.mp h
  have himm : w.extractLsb' 17 15 ++ w.extractLsb' 16 1 = w.extractLsb' 16 16 :=
    BitVec.extractLsb'_append_extractLsb'_eq_extractLsb' (start₁ := 16) (len₁ := 1) (len₂ := 15) rfl
  rw [hhigh, ← ofBool_bitField] at himm
  exact (hf _).trans (commandWord_eq hclear hunit hop (cntField_eq_zero.mp hcnt) himm.symm)

theorem encode_of_formatL {i : Instr} {f : Nat → Instr} (h : formatL w f = .ok i)
    (hf : ∀ len, encode (f len) = commandWord (BitVec.ofNat 16 len) 0 u (BitVec.ofNat 4 op)) : encode i = w := by
  obtain ⟨hcnt, rfl⟩ := formatL_eq_ok.mp h
  exact (hf _).trans (commandWord_eq hclear hunit hop (cntField_eq_zero.mp hcnt) (ofNat_lenField w).symm)

end

theorem encode_of_decodeReaderRow {w : Word} (hclear : reservedClear w = true) (hunit : unitField w = .reader)
    {i : Instr} (h : decodeReaderRow w = .ok i) : encode i = w := by
  have hu := unitField_eq_iff.mp hunit
  unfold decodeReaderRow at h
  split at h
  case h_3 hop => exact encode_of_formatC hclear hu hop h fun _ => rfl
  case h_10 hop => exact encode_of_formatL hclear hu hop h fun _ => rfl
  case h_12 => cases h
  all_goals exact encode_of_formatN hclear hu ‹_› h rfl

theorem encode_of_decodeWriterRow {w : Word} (hclear : reservedClear w = true) (hunit : unitField w = .writer)
    {i : Instr} (h : decodeWriterRow w = .ok i) : encode i = w := by
  have hu := unitField_eq_iff.mp hunit
  unfold decodeWriterRow at h
  split at h
  case h_1 hop | h_10 hop => exact encode_of_formatL hclear hu hop h fun _ => rfl
  case h_2 hop => exact encode_of_formatB hclear hu hop h fun _ => rfl
  case h_3 hop => exact encode_of_formatD hclear hu hop h fun _ _ => rfl
  case h_13 => cases h
  all_goals exact encode_of_formatN hclear hu ‹_› h rfl

/-- Settles O2: a legal word has its unit, its clear fields and its opcode, and its format has read or checked all the
other bits. -/
theorem encodeOfDecode : Obligations.EncodeOfDecode := by
  intro u w i h
  cases u with
  | reader =>
    obtain ⟨hunit, hclear, hrow⟩ := decode_reader_eq_ok.mp h
    obtain ⟨wf, hi⟩ := decodeReaderRow_wellFormed hrow
    exact ⟨wf, hi, encode_of_decodeReaderRow hclear hunit hrow⟩
  | writer =>
    obtain ⟨hunit, hclear, hrow⟩ := decode_writer_eq_ok.mp h
    obtain ⟨wf, hi, -⟩ := decodeWriterRow_wellFormed hrow
    exact ⟨wf, hi, encode_of_decodeWriterRow hclear hunit hrow⟩

end Sys2Proof.Machine
end

section
/-! SUPPORT. The opcode map as masks and patterns is the one the decoder reads by (30_encoding.md R86, R89). -/

namespace Sys2Proof.Machine

/-! ## What a row matches -/

/-- A mask that spares the low `f` bits of a field finds nothing exactly if the field's other bits are 0. -/
theorem field_and_mask_eq_zero {w : Word} {s n f : Nat} :
    w.extractLsb' s n &&& BitVec.allOnes n <<< f = 0#n ↔ w.extractLsb' (s + f) (n - f) = 0#(n - f) := by
  constructor
  · intro h
    ext k hk
    have hbit : (w.extractLsb' s n &&& BitVec.allOnes n <<< f).getLsbD (f + k) = false := by rw [h, BitVec.getLsbD_zero]
    simpa [show f + k < n by omega, Nat.add_assoc] using hbit
  · intro h
    ext k hk
    by_cases hf : k < f
    · simp [hf]
    · have hbit : (w.extractLsb' (s + f) (n - f)).getLsbD (k - f) = false := by rw [h, BitVec.getLsbD_zero]
      have hzero : w.getLsbD (s + k) = false := by
        simpa [show k - f < n - f by omega, show s + f + (k - f) = s + k by omega] using hbit
      simp [hzero]

/-- The row of the commands of engine `e` with opcode `op`, whose operands are the low `cnt` bits of `CNT` and the low
`imm` bits of `IMM16`. -/
def formatRow (e : Engine) (op : BitVec 4) (cnt imm : Nat) : OpcodeRow :=
  ⟨e, commandWord 0#16 0#4 (unitBit e) op, BitVec.allOnes 16 <<< imm ++ BitVec.allOnes 4 ++ BitVec.allOnes 4 <<< cnt ++
    BitVec.allOnes 3 ++ BitVec.allOnes 1 ++ BitVec.allOnes 4⟩

theorem formatRow_matches {e : Engine} {op : BitVec 4} {cnt imm : Nat} {w : Word} :
    (formatRow e op cnt imm).matches w ↔ unitField w = e ∧ reservedClear w = true ∧ opField w = op.toNat ∧
      w.extractLsb' (8 + cnt) (4 - cnt) = 0#(4 - cnt) ∧ w.extractLsb' (16 + imm) (16 - imm) = 0#(16 - imm) := by
  obtain ⟨himm, hhi, hcnt, hlo, hu, hop⟩ := eq_append_iff.mp (Eq.refl (formatRow e op cnt imm).mask)
  rw [OpcodeRow.matches, show (formatRow e op cnt imm).pattern = commandWord 0#16 0#4 (unitBit e) op from rfl,
    commandWord, eq_append_iff]
  simp only [BitVec.extractLsb'_and, himm, hhi, hcnt, hlo, hu, hop, BitVec.and_allOnes, field_and_mask_eq_zero,
    unitField_eq_iff, reservedClear_iff, opField, BitVec.toNat_inj]
  tauto

theorem readerRows_eq : readerRows =
    [formatRow .reader 0x1 0 0, formatRow .reader 0x2 0 0, formatRow .reader 0x3 4 0, formatRow .reader 0x4 0 0,
     formatRow .reader 0x5 0 0, formatRow .reader 0x6 0 0, formatRow .reader 0x7 0 0, formatRow .reader 0x8 0 0,
     formatRow .reader 0x9 0 0, formatRow .reader 0xA 0 16, formatRow .reader 0xC 0 0] := rfl

theorem writerRows_eq : writerRows =
    [formatRow .writer 0x1 0 16, formatRow .writer 0x2 0 1, formatRow .writer 0x3 4 8, formatRow .writer 0x4 0 0,
     formatRow .writer 0x5 0 0, formatRow .writer 0x6 0 0, formatRow .writer 0x7 0 0, formatRow .writer 0x8 0 0,
     formatRow .writer 0x9 0 0, formatRow .writer 0xA 0 16, formatRow .writer 0xB 0 0, formatRow .writer 0xC 0 0] := rfl

/-! ## The decoder and the table -/

/-- R89 for a reader: the format that the word's opcode selects holds exactly if the row of that opcode matches. -/
theorem decode_reader_accepts {w : Word} : (∃ i, decode .reader w = .ok i) ↔ ∃ r ∈ readerRows, r.matches w := by
  simp only [decode_reader_eq_ok, readerRows_eq, List.mem_cons, List.not_mem_nil, or_false, exists_eq_or_imp,
    exists_eq_left, formatRow_matches, exists_and_left, ← and_or_left]
  refine and_congr_right fun _ => and_congr_right fun _ => ?_
  unfold decodeReaderRow
  split
  case h_12 => simp_all -- no row has this opcode
  all_goals simp [*, formatN_eq_ok, formatC_eq_ok, formatL_eq_ok, cntField_eq_zero, lenField_eq_zero]

/-- R89 for a writer: the format that the word's opcode selects holds exactly if the row of that opcode matches. -/
theorem decode_writer_accepts {w : Word} : (∃ i, decode .writer w = .ok i) ↔ ∃ r ∈ writerRows, r.matches w := by
  simp only [decode_writer_eq_ok, writerRows_eq, List.mem_cons, List.not_mem_nil, or_false, exists_eq_or_imp,
    exists_eq_left, formatRow_matches, exists_and_left, ← and_or_left]
  refine and_congr_right fun _ => and_congr_right fun _ => ?_
  unfold decodeWriterRow
  split
  case h_13 => simp_all -- no row has this opcode
  all_goals simp [*, formatN_eq_ok, formatB_eq_ok, formatD_eq_ok, formatL_eq_ok, cntField_eq_zero, lenField_eq_zero]

/-- Every row fixes the low byte of the words it matches, where `U` and `OP` are. -/
theorem OpcodeRow.matches.lowByte_eq {u : Engine} {r : OpcodeRow} (hr : r ∈ rowsOf u) {w : Word} (h : r.matches w) :
    w &&& 0xFF = r.pattern &&& 0xFF := by
  have hmask : ∀ r ∈ rowsOf u, r.mask &&& 0xFF = 0xFF := by cases u <;> decide
  rw [← h, BitVec.and_assoc, hmask r hr]

theorem rowsOf_lowByte_injective (u : Engine) :
    ∀ r ∈ rowsOf u, ∀ q ∈ rowsOf u, r.pattern &&& 0xFF = q.pattern &&& 0xFF → r = q := by
  cases u <;> decide

/-- Settles O3: the decoder accepts what the table matches, engine by engine, and two rows that match one word have the
same low byte. -/
theorem opcodeMapIsTotalAndUnambiguous : Obligations.OpcodeMapIsTotalAndUnambiguous := by
  refine ⟨fun u w => ?_, fun u w r hr q hq hrw hqw => ?_⟩
  · cases u with
    | reader => exact decode_reader_accepts
    | writer => exact decode_writer_accepts
  · exact rowsOf_lowByte_injective u r hr q hq ((hrw.lowByte_eq hr).symm.trans (hqw.lowByte_eq hq))

end Sys2Proof.Machine
end

section
/-! SUPPORT. A step with a word on a command port (20_memory.md R63). -/

namespace Sys2Proof.Machine

theorem perform_readerCommand {s : State} {w : Word} {i : Instr} (idle : s.reader.rsp.isWaiting = false)
    (legal : decode .reader w = .ok i) : perform (.readerCommand w) s = exec i s := by
  simp [perform, whenMove, acceptReaderWord, idle, legal]

theorem perform_writerCommand {s : State} {w : Word} {data : List Byte} (idle : s.writer.rsp.isWaiting = false)
    (fits : data.length ≤ frameLength w) :
    perform (.writerCommand w data) s = runJob (writerJob w) (s.sendData data) := by
  simp [perform, whenMove, idle, fits]

/-- More bytes than the word frames are not sent (20_memory.md R71). -/
theorem perform_writerCommand_of_excess {s : State} {w : Word} {data : List Byte}
    (excess : frameLength w < data.length) : perform (.writerCommand w data) s = .next s := by
  simp [perform, whenMove, excess]

/-- Settles O12: an idle reader accepts the word, and runs what it decodes to. -/
theorem stepRunsReaderCommand : Obligations.StepRunsReaderCommand := by
  intro s w rest i hhost idle legal
  rw [step_of_host hhost, perform_readerCommand (s := s.setHost rest) idle legal]
  rfl

/-- Settles O13: an idle writer accepts the word with its bytes, and runs what it decodes to. -/
theorem stepRunsWriterCommand : Obligations.StepRunsWriterCommand := by
  intro s w data rest i hhost idle fits legal
  rw [step_of_host hhost, perform_writerCommand (s := s.setHost rest) idle fits, writerJob_eq_command.mpr legal]
  rfl

/-! ## The word that `withFetchWord` places -/

@[simp] theorem Reader.ready_isWaiting (r : Reader) : r.ready.rsp.isWaiting = false := by
  unfold Reader.ready
  split
  · rfl
  · rename_i h
    simpa using h

@[simp] theorem Writer.ready_isWaiting (w : Writer) : w.ready.rsp.isWaiting = false := by
  unfold Writer.ready
  split
  · rfl
  · rename_i h
    simpa using h

@[simp] theorem State.sendData_nil (s : State) : s.sendData [] = s := by
  rw [State.sendData, List.append_nil]
  rfl

theorem decodeTableWord_eq_some {nbits n : Nat} {i : Instr} (h : decodeTableWord nbits n = some i) :
    let w : Word := BitVec.ofNat 32 (n % 2 ^ nbits)
    decode (unitField w) w = .ok i := by
  dsimp only [decodeTableWord] at h ⊢
  split at h <;> cases h
  assumption

theorem commandMove_of_reader {w : Word} (hu : unitField w = .reader) : commandMove w = .readerCommand w := by
  simp [commandMove, hu]

theorem commandMove_of_writer {w : Word} (hu : unitField w = .writer) :
    commandMove w = .writerCommand w (List.replicate (frameLength w) 0) := by
  simp [commandMove, hu]

theorem Job.frameLength_command_of_ne {i : Instr} (h : ∀ len, i ≠ .wWrite len) : (Job.command i).frameLength = 0 := by
  cases i with
  | wWrite len => exact absurd rfl (h len)
  | _ => rfl

theorem frameLength_of_legal {w : Word} {i : Instr} (legal : decode .writer w = .ok i) :
    frameLength w = (Job.command i).frameLength := by
  obtain ⟨-, hframe⟩ := writerJob_ofWriter w
  rw [← hframe, writerJob_eq_command.mpr legal]

/-- Settles O14: the word goes to the engine of the command it decodes to, which has been made ready for it, with the
zero bytes that a `W_WRITE` frames. -/
theorem stepRunsTheWordPlaced : Obligations.StepRunsTheWordPlaced := by
  intro s nbits n i h
  have legal := decodeTableWord_eq_some h
  dsimp only [State.withFetchWord] at legal ⊢
  generalize BitVec.ofNat 32 (n % 2 ^ nbits) = w at legal ⊢
  obtain ⟨-, hi, -⟩ := encodeOfDecode _ _ _ legal
  cases hu : unitField w with
  | reader =>
    rw [hu] at legal hi
    rw [hi, commandMove_of_reader hu, step_of_host rfl, perform_readerCommand s.reader.ready_isWaiting legal]
    split
    · cases hi
    · rfl
  | writer =>
    rw [hu] at legal hi
    rw [hi, commandMove_of_writer hu, step_of_host rfl, perform_writerCommand s.writer.ready_isWaiting (by simp),
      writerJob_eq_command.mpr legal, frameLength_of_legal legal]
    split
    · rfl
    · rename_i hne
      rw [Job.frameLength_command_of_ne hne]
      exact congrArg (exec i) (State.sendData_nil _)

end Sys2Proof.Machine
end

section
/-! SUPPORT. The data bytes framed behind a writer's word may come in parts (30_encoding.md R87, R88): a job with a frame
does not depend on whether the writer has been waiting. -/

namespace Sys2Proof.Machine

/-! ## Jobs with a frame -/

/-- Only a `W_WRITE` and an illegal word framed like one have a frame. -/
theorem Job.eq_of_frameLength_pos {j : Job} (h : 0 < j.frameLength) :
    j = .command (.wWrite j.frameLength) ∨ j = .illegal j.frameLength := by
  cases j with
  | illegal len => exact .inr rfl
  | command i =>
    cases i with
    | wWrite len => exact .inl rfl
    | _ => exact absurd h (Nat.lt_irrefl 0)

theorem Writer.snkWrite_await {w : Writer} {j : Job} {q : Request} {i : Instr} {xs : List Byte}
    {k k' : SnkAnswer → Writer → Writer} (hk : ∀ a p, k a ((w.setPort p).await j q) = k' a (w.setPort p)) :
    (w.await j q).snkWrite i xs k = w.snkWrite i xs k' := by
  unfold Writer.snkWrite
  rw [await_port]
  cases w.port.answer xs with
  | none => rfl
  | some a => exact hk a _

theorem Writer.writeBytes_await (w : Writer) (j : Job) (q : Request) (mode : StagingMode) (B : Endian) (len : Nat)
    (d : List Byte) : (w.await j q).writeBytes mode B len d = w.writeBytes mode B len d := by
  unfold Writer.writeBytes
  rw [show (w.await j q).aligned = w.aligned from rfl]
  split
  · exact snkWrite_await fun a p => by cases a <;> rfl
  · refine snkWrite_await fun a p => ?_
    match a with
    | .err e => rfl
    | .ack 0 => rfl
    | .ack (m + 1) => rfl

/-- A job with a frame takes it and then does what it does, whether or not the writer has been waiting. -/
theorem runJob_eq_takeData {j : Job} (h : 0 < j.frameLength) : ∃ k : Params → Writer → List Byte → Writer,
    (∀ p w j' q d, k p (w.await j' q) d = k p w d) ∧
      ∀ s, runJob j s = s.onWriter fun p w => w.takeData j j.frameLength (k p w) := by
  obtain e | e := Job.eq_of_frameLength_pos h <;> rw [e]
  · refine ⟨fun p w d => w.whenAttached (w.writeBytes p.stagingMode p.writerEndian j.frameLength d),
      fun p w j' q d => ?_, fun s => rfl⟩
    dsimp only
    rw [Writer.writeBytes_await]
    rfl
  · exact ⟨fun _ w _ => w.raise .illegalCommand, fun _ _ _ _ _ => rfl, fun s => rfl⟩

/-- Until its whole frame has come, a job only waits for the rest. -/
theorem runJob_of_short {j : Job} {s : State} (short : s.writer.dataIn.length < j.frameLength) :
    runJob j s = .next (s.setWriter (s.writer.await j (.dataIn j.frameLength))) := by
  obtain ⟨k, -, hj⟩ := runJob_eq_takeData (Nat.zero_lt_of_lt short)
  rw [hj, State.onWriter, Writer.takeData, if_neg (Nat.not_le.mpr short)]

/-- A job with a frame, carried out again by a writer that has been waiting, does what it would have done at first. -/
theorem runJob_await {j : Job} (h : 0 < j.frameLength) (s : State) (j' : Job) (q : Request) :
    runJob j (s.setWriter (s.writer.await j' q)) = runJob j s := by
  obtain ⟨k, hk, hj⟩ := runJob_eq_takeData h
  have htake : (s.writer.await j' q).takeData j j.frameLength (k s.params (s.writer.await j' q)) =
      s.writer.takeData j j.frameLength (k s.params s.writer) := by
    simp only [Writer.takeData, hk, Writer.await_dataIn]
    rfl
  rw [hj, hj]
  exact congrArg (fun w => Host.Outcome.next (s.setWriter w)) htake

/-! ## More bytes of an outstanding frame -/

section
variable {s : State} {j : Job} {len : Nat} {xs : List Byte} (waits : s.writer.rsp = .waiting j (.dataIn len))
include waits

theorem perform_writerData (fits : s.writer.dataIn.length + xs.length ≤ len) :
    perform (.writerData xs) s = runJob j (s.sendData xs) := by
  simp [perform, supplyData, waits, whenMove, fits]

/-- More bytes than are missing are not sent (20_memory.md R71). -/
theorem perform_writerData_of_excess (excess : len < s.writer.dataIn.length + xs.length) :
    perform (.writerData xs) s = .next s := by
  simp [perform, supplyData, waits, whenMove, excess]

end

/-! ## A frame in two parts -/

/-- The writer once the bytes `xs`, and no more, of those framed behind the word `w` have come. -/
def Writer.withPart (v : Writer) (w : Word) (xs : List Byte) : Writer :=
  (v.setDataIn xs).await (writerJob w) (.dataIn (frameLength w))

section
variable {s : State} {w : Word} {xs : List Byte} (short : xs.length < frameLength w)
include short

theorem perform_writerCommand_of_short (idle : s.writer.rsp.isWaiting = false) (empty : s.writer.dataIn = []) :
    perform (.writerCommand w xs) s = .next (s.setWriter (s.writer.withPart w xs)) := by
  have hdata : (s.sendData xs).writer.dataIn = xs := by simp [empty]
  obtain ⟨-, hframe⟩ := writerJob_ofWriter w
  rw [perform_writerCommand idle short.le, runJob_of_short (by rw [hdata, hframe]; exact short), hframe, State.sendData,
    empty]
  rfl

theorem perform_writerData_of_part {ys : List Byte} (fits : xs.length + ys.length ≤ frameLength w) :
    perform (.writerData ys) (s.setWriter (s.writer.withPart w xs)) =
      runJob (writerJob w) (s.setWriter (s.writer.setDataIn (xs ++ ys))) := by
  obtain ⟨-, hframe⟩ := writerJob_ofWriter w
  rw [perform_writerData rfl fits]
  exact runJob_await (by omega) (s.setWriter (s.writer.setDataIn (xs ++ ys))) _ _

end

/-- Settles O60: with the first part the writer waits (`perform_writerCommand_of_short`), and with the second it does what
it does on the whole frame (`perform_writerData_of_part`). -/
theorem frameMayComeInParts : Obligations.FrameMayComeInParts := by
  refine ⟨fun s w xs ys rest idle empty short fits => ?_, fun s w xs rest excess hhost => ?_,
    fun s j len xs rest waits excess hhost => ?_⟩
  · have hwhole : (s.setHost rest).sendData (xs ++ ys) = (s.setHost rest).setWriter (s.writer.setDataIn (xs ++ ys)) := by
      rw [State.sendData, State.setHost_writer, empty, List.nil_append]
    refine ⟨(s.setHost (.writerData ys :: rest)).setWriter (s.writer.withPart w xs), ?_, rfl, ?_⟩
    · exact (step_of_host rfl).trans
        (perform_writerCommand_of_short (s := s.setHost (.writerData ys :: rest)) short idle empty)
    · calc
        _ = perform (.writerData ys) ((s.setHost rest).setWriter (s.writer.withPart w xs)) := step_of_host rfl
        _ = runJob (writerJob w) ((s.setHost rest).setWriter (s.writer.setDataIn (xs ++ ys))) :=
          perform_writerData_of_part (s := s.setHost rest) short fits
        _ = perform (.writerCommand w (xs ++ ys)) (s.setHost rest) := by
          rw [perform_writerCommand (s := s.setHost rest) idle (by simpa using fits), hwhole]
        _ = _ := (step_of_host (s := { s with host := .writerCommand w (xs ++ ys) :: rest }) rfl).symm
  · exact (step_of_host hhost).trans (perform_writerCommand_of_excess excess)
  · exact (step_of_host hhost).trans (perform_writerData_of_excess (s := s.setHost rest) waits excess)

end Sys2Proof.Machine
end

section
/-! SUPPORT. The response word and its side channels show a whole response (30_encoding.md R90 to R93). -/

namespace Sys2Proof.Machine

/-! ## Status codes (R91 to R93) -/

theorem Status.err_eq_some {st : Status} {e : ErrVal} :
    st.err = some e ↔ st = .ioError (.portError e) ∨ st = .flushOnUnwrap (.portError e) := by
  cases st with
  | ioError c | flushOnUnwrap c => cases c <;> simp [Status.err]
  | _ => simp [Status.err]

/-- Settles O52: the codes stand in the definitions, and `ERR` is read off the status (`Status.err_eq_some`). -/
theorem statusDetailTable : Obligations.StatusDetailTable :=
  ⟨⟨rfl, rfl⟩, ⟨rfl, rfl⟩, fun _ => ⟨⟨rfl, rfl⟩, ⟨rfl, rfl⟩⟩, ⟨rfl, rfl⟩, ⟨rfl, rfl⟩, ⟨rfl, rfl⟩, ⟨rfl, rfl⟩, ⟨rfl, rfl⟩,
    ⟨rfl, rfl⟩, ⟨rfl, rfl⟩, fun _ _ => Status.err_eq_some⟩

/-- The cause of a failed transfer, read back from `DETAIL` and ERR. -/
def IoCause.ofCodes (detail : BitVec 4) : Option ErrVal → IoCause
  | some e => .portError e
  | none => if detail = 2 then .unexpectedEof else .writeZero

/-- The status, read back from `STATUS`, `DETAIL` and ERR. -/
def Status.ofCodes (code detail : BitVec 4) (err : Option ErrVal) : Status :=
  match code.toNat with
  | 0 => .ok
  | 1 => .ioError (.ofCodes detail err)
  | 2 => .programmerError (if detail = 1 then .countGt8 else .getMutUnaligned)
  | 3 => .flushOnUnwrap (.ofCodes detail err)
  | 4 => .illegalCommand
  | _ => .sequenceError (if detail = 1 then .detached else .alreadyAttached)

theorem Status.ofCodes_codes (st : Status) : ofCodes st.code st.detail st.err = st := by
  cases st with
  | ioError c | programmerError c | flushOnUnwrap c | sequenceError c => cases c <;> rfl
  | _ => rfl

theorem Status.eq_of_codes {a b : Status} (hcode : a.code = b.code) (hdetail : a.detail = b.detail)
    (herr : a.err = b.err) : a = b := by
  rw [← ofCodes_codes a, hcode, hdetail, herr, ofCodes_codes]

/-! ## The response word (R90) -/

theorem eq_append_responseFields (w : Word) :
    w = w.extractLsb' 16 16 ++ w.extractLsb' 8 8 ++ w.extractLsb' 4 4 ++ w.extractLsb' 0 4 := by
  have join {a b m n : Nat} (h : a = b + n) :=
    BitVec.extractLsb'_append_extractLsb'_eq_extractLsb' (x := w) (len₂ := m) h
  rw [join (a := 16) (b := 8) rfl, join (a := 8) (b := 4) rfl, join (a := 4) (b := 0) rfl]
  exact BitVec.extractLsb'_eq_self.symm

theorem Response.word_fields (p : Response) : p.word.extractLsb' 0 4 = p.status.code ∧
    p.word.extractLsb' 4 4 = p.status.detail ∧ p.word.extractLsb' 8 8 = p.result8 ∧
    p.word.extractLsb' 16 16 = BitVec.ofNat 16 p.n := by
  have fields := (eq_append_responseFields p.word).symm
  obtain ⟨fields, hcode⟩ := append_eq_append_iff.mp fields
  obtain ⟨fields, hdetail⟩ := append_eq_append_iff.mp fields
  obtain ⟨hn, hresult⟩ := append_eq_append_iff.mp fields
  exact ⟨hcode, hdetail, hresult, hn⟩

/-- `N` is the byte count, while that fits its field. -/
theorem Response.word_n {p : Response} (hp : p.n ≤ 65535) : (p.word.extractLsb' 16 16).toNat = p.n := by
  obtain ⟨-, -, -, hn⟩ := p.word_fields
  rw [hn, BitVec.toNat_ofNat, Nat.mod_eq_of_lt (by omega)]

/-- A response is what is observed of it (60_exceptions.md R241). -/
theorem Response.eq_of_observed {p q : Response} (hp : p.n ≤ 65535) (hq : q.n ≤ 65535) (h : q.observed = p.observed) :
    q = p := by
  obtain ⟨hword, herr, hout, hgrant⟩ := Observation.mk.inj h
  obtain ⟨pcode, pdetail, presult, -⟩ := p.word_fields
  obtain ⟨qcode, qdetail, qresult, -⟩ := q.word_fields
  have hn : q.n = p.n := by rw [← word_n hq, hword, word_n hp]
  rw [hword] at qcode qdetail qresult
  have hstatus : q.status = p.status := Status.eq_of_codes (qcode.symm.trans pcode) (qdetail.symm.trans pdetail) herr
  have hresult : q.result8 = p.result8 := qresult.symm.trans presult
  cases p
  cases q
  congr

/-- Settles O51: the fields of the word (`Response.word_fields`), from which the status is read back
(`Status.eq_of_codes`). -/
theorem responseWordFields : Obligations.ResponseWordFields := by
  intro p hp
  obtain ⟨hcode, hdetail, hresult, -⟩ := p.word_fields
  exact ⟨hcode, hdetail, hresult, Response.word_n hp, rfl, fun q hq h => Response.eq_of_observed hp hq h⟩

end Sys2Proof.Machine
end

section
/-! SUPPORT. The policy datapath bit by bit: the shifts, fields taken out of a byte and laid into it, and the windows
(40_policy.md R116 to R122). -/

namespace Sys2Proof.Machine

/-! ## The shifts along the policy index (R116) -/

/-- Settles O5: the two index laws of the shifts, with their bounds as R116 writes them. -/
theorem shiftsMoveAlongPolicyIndex : Obligations.ShiftsMoveAlongPolicyIndex := by
  intro B v k i _ hi
  have hi8 : i < 8 := by omega
  have hin : i + k ≤ 7 ↔ i + k < 8 := by omega
  constructor
  · rw [bitAt_shiftTowardMsb B v k hi8]
    simp [hin]
  · rw [bitAt_shiftTowardLsb B v k hi8]
    simp

/-- Toward the front of the stream, a byte loses its first `k` bits and fills up with zeros. -/
theorem byteBits_shiftTowardMsb (B : Endian) (v : Byte) {k : Nat} (hk : k ≤ 8) :
    byteBits B (shiftTowardMsb B v k) = (byteBits B v).drop k ++ List.replicate k false := by
  refine List.ext_getElem (by simp; omega) fun i hi _ => ?_
  rw [getElem_byteBits, bitAt_shiftTowardMsb B v k hi, List.getElem_append]
  by_cases hin : i + k < 8
  · simp [hin, show i < 8 - k by omega, Nat.add_comm k i]
  · simp [hin, show ¬ i < 8 - k by omega]

/-! ## Fields taken out of a byte (R119) -/

/-- Up by `8 - c` places and down again, the low `c` bits of a byte are left. -/
theorem shr8_shl8 (v : Byte) {c : Nat} (hc : c ≤ 8) : shr8 (shl8 v (8 - c)) (8 - c) = v &&& mask c := by
  refine BitVec.eq_of_getLsbD_eq fun p hp => ?_
  rw [getLsbD_shr8, BitVec.getLsbD_and, getLsbD_mask c hp]
  by_cases h : p < c
  · simp [getLsbD_shl8 v (8 - c) (show p + (8 - c) < 8 by omega), h]
  · simp [BitVec.getLsbD_of_ge _ (p + (8 - c)) (show 8 ≤ p + (8 - c) by omega), h]

theorem extract_lsbFirst (w : Byte) {c : Nat} (hc : c ≤ 8) : extract .lsbFirst w c = w &&& mask c := shr8_shl8 w hc

/-- A field of so many bits is below that power of two. -/
theorem assemble_lt (B : Endian) (bits : List Bool) : assemble B bits < 2 ^ bits.length := by
  refine Nat.lt_pow_two_of_testBit _ fun j hj => ?_
  cases B with
  | msbFirst => simp [testBit_assemble_msbFirst, hj]
  | lsbFirst => simp [testBit_assemble_lsbFirst, hj]

theorem toNat_extract (B : Endian) (w : Byte) {c : Nat} (hc : c ≤ 8) :
    (extract B w c).toNat = assemble B ((byteBits B w).take c) := by
  have hlt : assemble B ((byteBits B w).take c) < 2 ^ 8 :=
    (assemble_lt B _).trans_le (Nat.pow_le_pow_right (by omega) (by simp))
  rw [extract_eq_assemble B w hc, BitVec.toNat_ofNat, Nat.mod_eq_of_lt hlt]

theorem fieldBits_extract (B : Endian) (w : Byte) {c : Nat} (hc : c ≤ 8) :
    fieldBits B (extract B w c) c = (byteBits B w).take c := by
  have hlen : ((byteBits B w).take c).length = c := by simpa using hc
  simpa only [hlen, ← extract_eq_assemble B w hc] using fieldBits_assemble (B := B) (hlen.trans_le hc)

/-- A byte is the field of all its eight bits. -/
theorem fieldBits_eight (B : Endian) (f : Byte) : fieldBits B f 8 = byteBits B f := by
  cases B with
  | msbFirst => rfl
  | lsbFirst => rfl

/-- Settles O6: `extract` as the assembly of the first bits (`toNat_extract`), whose bound and bits it has. -/
theorem extractAssemblesFirstBits : Obligations.ExtractAssemblesFirstBits := by
  intro B w c hc
  have hlt : (extract B w c).toNat < 2 ^ c := by
    simpa [toNat_extract B w hc, hc] using assemble_lt B ((byteBits B w).take c)
  have hnone : extract B w 0 = 0 := by
    cases B with
    | msbFirst => exact extract_eq_assemble .msbFirst w (Nat.zero_le 8)
    | lsbFirst => exact extract_eq_assemble .lsbFirst w (Nat.zero_le 8)
  have hall : extract B w 8 = w := byteBits_injective B <| calc
    byteBits B (extract B w 8) = fieldBits B (extract B w 8) 8 := (fieldBits_eight B _).symm
    _ = (byteBits B w).take 8 := fieldBits_extract B w le_rfl
    _ = byteBits B w := List.take_of_length_le (byteBits_length B w).le
  exact ⟨rfl, rfl, extract_lsbFirst w hc, toNat_extract B w hc, hlt, fieldBits_extract B w hc, hnone, hall⟩

/-! ## Fields laid into a byte (R120) -/

theorem fieldBits_and_mask (B : Endian) (f : Byte) {c : Nat} (hc : c ≤ 8) :
    fieldBits B (f &&& mask c) c = fieldBits B f c := by
  refine List.map_congr_left fun j hj => ?_
  have hjc : j < c := List.mem_range.mp hj
  cases B with
  | msbFirst => simp [fieldBit, getLsbD_mask c (show c - 1 - j < 8 by omega), show c - 1 - j < c by omega]
  | lsbFirst => simp [fieldBit, getLsbD_mask c (show j < 8 by omega), hjc]

theorem byteBits_place (B : Endian) (f : Byte) {c : Nat} (hc : c ≤ 8) :
    byteBits B (place B f c) = fieldBits B f c ++ List.replicate (8 - c) false := by
  refine List.ext_getElem (by simp; omega) fun i hi _ => ?_
  rw [getElem_byteBits, List.getElem_append]
  by_cases hic : i < c
  · simp [hic, bitAt_place B f hc hic]
  · simp [hic, bitAt_place_of_le B f (Nat.le_of_not_lt hic) hi]

/-- `place` uses the low `c` bits only. -/
theorem place_and_mask (B : Endian) (f : Byte) {c : Nat} (hc : c ≤ 8) : place B (f &&& mask c) c = place B f c :=
  byteBits_injective B (by rw [byteBits_place B _ hc, fieldBits_and_mask B f hc, byteBits_place B f hc])

theorem extract_place (B : Endian) (f : Byte) {c : Nat} (hc : c ≤ 8) : extract B (place B f c) c = f &&& mask c := by
  have hext : extract B (place B f c) c = f &&& mask c &&& mask c := by
    cases B with
    | msbFirst => exact shr8_shl8 (f &&& mask c) hc
    | lsbFirst => exact extract_lsbFirst (f &&& mask c) hc
  rw [hext, BitVec.and_assoc, BitVec.and_self]

theorem place_zero (B : Endian) (f : Byte) : place B f 0 = 0 :=
  eq_of_bitAt_eq (B := B) fun i hi => by rw [bitAt_place_of_le B f (Nat.zero_le i) hi, bitAt_zero]

/-- Settles O7: the bits of the placed byte (`byteBits_place`), from which `extract_place` gets the field back. -/
theorem placeLaysFieldBits : Obligations.PlaceLaysFieldBits := by
  intro B f c hc
  have hbits : byteBits B (place B f c) = fieldBits B (f &&& mask c) c ++ List.replicate (8 - c) false := by
    rw [byteBits_place B f hc, fieldBits_and_mask B f hc]
  exact ⟨rfl, rfl, hbits, (place_and_mask B f hc).symm, extract_place B f hc, place_zero B f⟩

/-! ## Byte-stream windows (R121, R122) -/

/-- Settles O8: the forms stand in the definitions, and `byteBits_rcombine` gives the bits. -/
theorem readerWindowJoinsBytes : Obligations.ReaderWindowJoinsBytes :=
  fun B prev curr _ _ ho => ⟨rfl, rfl, byteBits_rcombine B prev curr (by omega)⟩

/-- R122: behind the pending bits, the byte sent carries the head of the data byte. -/
theorem byteBits_wcombine (B : Endian) {p : Byte} (d : Byte) {o : Nat} (ho : o ≤ 8)
    (hp : ∀ i, o ≤ i → i < 8 → bitAt B p i = false) :
    byteBits B (wcombine B p d o) = (byteBits B p).take o ++ (byteBits B d).take (8 - o) := by
  refine List.ext_getElem (by simp; omega) fun i hi _ => ?_
  have hi8 : i < 8 := hi
  rw [getElem_byteBits, wcombine, bitAt_or, bitAt_shiftTowardLsb B d o hi8, List.getElem_append]
  by_cases hold : i < o
  · simp [hold, hi8, show ¬ o ≤ i by omega]
  · have hle : o ≤ i := Nat.le_of_not_lt hold
    simp [hold, hle, hp i hle hi8, ho]

/-- Settles O9: the bits of the window (`byteBits_wcombine`) and of the tail, a shift toward the front. -/
theorem writerWindowJoinsBytes : Obligations.WriterWindowJoinsBytes :=
  fun B _ d o _ ho hp => ⟨rfl, rfl, rfl, rfl, byteBits_wcombine B d (by omega) hp,
    byteBits_shiftTowardMsb B d (Nat.sub_le 8 o)⟩

end Sys2Proof.Machine
end

section
/-! SUPPORT. What each reader command makes of an attached reader (41_reader.md R132 to R143): one equation per
command, or one per case of it. -/

namespace Sys2Proof.Machine

/-! ## Operations of an attached reader -/

/-- A command behind the attachment check, given to an attached reader. -/
theorem State.onReader_whenAttached {s : State} (att : s.reader.attached = true) (k : Params → Reader → Reader) :
    s.onReader (fun p r => r.whenAttached (k p r)) = .next (s.setReader (k s.params s.reader)) := by
  simp [State.onReader, Reader.whenAttached, att]

theorem Reader.srcRead_of_answer {r : Reader} {len : Nat} {a : SrcAnswer} (h : r.port.answer len = some a) (i : Instr)
    (k : SrcAnswer → Reader → Reader) : r.srcRead i len k = k a (r.setPort (r.port.after len a)) := by
  simp [Reader.srcRead, h]

/-- The command in whose name a byte is fetched shows only while the port is silent. -/
theorem Reader.fetchByte_eq_or_waits (r : Reader) (i j : Instr) (k : Byte → Reader → Reader) :
    r.fetchByte j k = r.fetchByte i k ∨
      ∃ v : Reader, r.fetchByte i k = v.await (.command i) (.srcRead 1) ∧
        r.fetchByte j k = v.await (.command j) (.srcRead 1) := by
  cases h : r.port.answer 1 with
  | none => exact .inr ⟨r.setPort r.port.silent, by simp [fetchByte, srcRead, h], by simp [fetchByte, srcRead, h]⟩
  | some a => exact .inl (by rw [fetchByte, fetchByte, srcRead_of_answer h, srcRead_of_answer h])

/-! ## The commands that make no transfer (R132, R135 to R140, R142) -/

theorem exec_rNew (s : State) :
    exec .rNew s = .next (s.setReader
      (if s.reader.attached then s.reader.raise (.sequenceError .alreadyAttached)
       else (((s.reader.setAttached true).setCursor 0 0).setReleased false).respond .okay)) := rfl

theorem exec_rDrop (s : State) :
    exec .rDrop s = .next (s.setReader
      (if s.reader.attached then ((s.reader.setAttached false).setCursor 0 0).respond .okay
       else s.reader.respond .okay)) := rfl

section
variable {s : State} (att : s.reader.attached = true)
include att

theorem exec_rIsAligned :
    exec .rIsAligned s = .next (s.setReader (s.reader.respond (.value (flagResult s.reader.aligned)))) := by
  rw [exec, execRIsAligned, State.onReader_whenAttached att]

theorem exec_rAlign : exec .rAlign s = .next (s.setReader ((s.reader.setCursor 0 0).respond .okay)) := by
  rw [exec, execRAlign, State.onReader_whenAttached att]

theorem exec_rGetRef : exec .rGetRef s = .next (s.setReader (s.reader.respond (.granting .ref))) := by
  rw [exec, execRGetRef, State.onReader_whenAttached att]

theorem exec_rGetMut :
    exec .rGetMut s = .next (s.setReader
      (if s.reader.aligned then s.reader.respond (.granting .mut)
       else s.reader.raise (.programmerError .getMutUnaligned))) := by
  rw [exec, execRGetMut, State.onReader_whenAttached att]

theorem exec_rGetMutUnchecked :
    exec .rGetMutUnchecked s = .next (s.setReader (s.reader.respond (.granting .mutUnchecked))) := by
  rw [exec, execRGetMutUnchecked, State.onReader_whenAttached att]

theorem exec_rIntoInner :
    exec .rIntoInner s = .next (s.setReader
      ((((s.reader.setAttached false).setCursor 0 0).setReleased true).respond (.granting .released))) := by
  rw [exec, execRIntoInner, State.onReader_whenAttached att]

end

/-- Settles O18: `R_NEW` of a detached reader and of an attached one. -/
theorem newReaderAttaches : Obligations.NewReaderAttaches := by
  refine ⟨rfl, fun s => ⟨fun det => ?_, fun att => ?_⟩⟩
  · rw [exec_rNew, if_neg (by simp [det])]
    rfl
  · rw [exec_rNew, if_pos att]
    rfl

theorem flagResult_aligned (r : Reader) : flagResult r.aligned = if r.off = 0 then 1 else 0 := by
  simp [flagResult, Reader.aligned]

/-- Settles O21: an attached reader answers each of the four at once, and only `R_GET_MUT` looks at the offset first. -/
theorem readerQueriesAnswer : Obligations.ReaderQueriesAnswer := by
  refine ⟨rfl, rfl, rfl, rfl, fun s att =>
    ⟨?_, exec_rGetRef att, exec_rGetMutUnchecked att, fun ho => ?_, fun ho => ?_⟩⟩
  · rw [← flagResult_aligned]
    exact exec_rIsAligned att
  · rw [exec_rGetMut att, if_pos (Reader.aligned_eq_true.mpr ho)]
    rfl
  · rw [exec_rGetMut att, if_neg (mt Reader.aligned_eq_true.mp ho)]
    rfl

/-- Settles O22: an attached reader clears its cursor, and `R_DROP` of a detached one only answers. -/
theorem readerDiscards : Obligations.ReaderDiscards := by
  refine ⟨rfl, rfl, rfl, fun s => ⟨fun att => ⟨exec_rAlign att, exec_rIntoInner att, ?_⟩, fun det => ?_⟩⟩
  · rw [exec_rDrop, if_pos att]
    rfl
  · rw [exec_rDrop, if_neg (by simp [det])]
    rfl

/-! ## `R_READ_BIT` (R133) -/

theorem advance_one (o : Offset) : advance o 1 = o + 1 := BitVec.eq_of_toNat_eq (by simp [advance_toNat])

/-- At a non-zero offset the bit is the buffer's. -/
theorem exec_rReadBit_of_unaligned {s : State} (att : s.reader.attached = true) (ho : s.reader.off ≠ 0) :
    exec .rReadBit s = .next (s.setReader (s.reader.finishRead (advance s.reader.off 1) s.reader.buf
      (bitByte (bitAt s.params.readerEndian s.reader.buf s.reader.off.toNat)))) := by
  simp [exec, execRReadBit, State.onReader_whenAttached att, Reader.aligned_eq_false.mpr ho]

/-- At offset 0 the bit is the first of the byte fetched. -/
theorem exec_rReadBit_of_aligned {s : State} (att : s.reader.attached = true) (ho : s.reader.off = 0) :
    exec .rReadBit s = .next (s.setReader (s.reader.fetchByte .rReadBit fun x r' =>
      r'.finishRead (advance s.reader.off 1) x (bitByte (bitAt s.params.readerEndian x 0)))) := by
  simp [exec, execRReadBit, State.onReader_whenAttached att, Reader.aligned, ho]

/-- Settles O19: the bit is the buffer's, or the first of the byte fetched, whatever the port answers. -/
theorem readBitDeliversNextBit : Obligations.ReadBitDeliversNextBit := by
  refine ⟨rfl, fun s att => ⟨fun ho => ?_, fun ho a ha => ?_⟩⟩
  · rw [exec_rReadBit_of_unaligned att ho, advance_one]
    rfl
  · rw [exec_rReadBit_of_aligned att ho, Reader.fetchByte, Reader.srcRead_of_answer ha]
    match a with
    | .data (x :: _) =>
      rw [ho]
      rfl
    | .data [] => rfl
    | .err e => rfl

/-! ## `R_READ_BITS` (R134) -/

theorem Offset.eq_zero_iff {o : Offset} : o = 0 ↔ o.toNat = 0 := BitVec.toNat_inj.symm

section
variable (B : Endian) {r : Reader} {c : Nat}

/-- A field inside the partial byte. -/
theorem Reader.readField_of_held (hpos : 1 ≤ c) (ho : 1 ≤ r.off.toNat) (hfit : r.off.toNat + c ≤ 8) :
    r.readField B c =
      r.finishRead (advance r.off c) r.buf (extract B (shiftTowardMsb B r.buf r.off.toNat) c) := by
  have hal : r.aligned = false := Reader.aligned_eq_false.mpr fun e => by simp [e] at ho
  rw [readField, if_neg (by omega), if_pos ⟨hal, by omega⟩]

/-- A field that needs a byte more. -/
theorem Reader.readField_of_fetch (hpos : 1 ≤ c) (hneed : r.off = 0 ∨ 8 < r.off.toNat + c) :
    r.readField B c = r.fetchByte (.rReadBits c) fun x r' =>
      r'.finishRead (advance r.off c) x (extract B (r.window B x) c) := by
  have hlt := r.off.isLt
  have hfetch : ¬ (r.aligned = false ∧ c ≤ 8 - r.off.toNat) := by
    rintro ⟨hal, hfit⟩
    obtain ho | hlong := hneed
    · exact Reader.aligned_eq_false.mp hal ho
    · omega
  rw [readField, if_neg (by omega), if_neg hfetch]

end

/-- The three cases of `R_READ_BITS`: no bits, bits that are held, and bits for which a byte is fetched. -/
theorem Reader.readField_cases (r : Reader) (c : Nat) :
    c = 0 ∨ (1 ≤ c ∧ 1 ≤ r.off.toNat ∧ r.off.toNat + c ≤ 8) ∨ (1 ≤ c ∧ (r.off = 0 ∨ 8 < r.off.toNat + c)) := by
  rw [Offset.eq_zero_iff]
  omega

/-- The window in the terms of R134. -/
theorem Reader.window_eq (B : Endian) (r : Reader) (x : Byte) :
    r.window B x = if r.off.toNat = 0 then x else rcombine B r.buf x r.off.toNat :=
  if_congr (Reader.aligned_eq_true.trans Offset.eq_zero_iff) rfl rfl

theorem exec_rReadBits_of_gt {s : State} (att : s.reader.attached = true) {c : Nat} (hc : 8 < c) :
    exec (.rReadBits c) s = .next (s.setReader (s.reader.raise (.programmerError .countGt8))) := by
  simp [exec, execRReadBits, State.onReader_whenAttached att, countTooLarge, hc]

/-- A field taken out of a byte is below that power of two (R119). -/
theorem extract_toNat_lt (B : Endian) (w : Byte) {c : Nat} (hc : c ≤ 8) : (extract B w c).toNat < 2 ^ c := by
  obtain ⟨-, -, -, -, hlt, -⟩ := extractAssemblesFirstBits B w c hc
  exact hlt

/-- Every result of `R_READ_BITS` fits its count, a failure's among them. -/
theorem Reader.result_lt_of_readField {r : Reader} {B : Endian} {c : Nat} (hc : c ≤ 8) {p : Response}
    (hp : (r.readField B c).rsp = .response p) : p.result8.toNat < 2 ^ c := by
  obtain rfl | ⟨hpos, ho, hfit⟩ | ⟨hpos, hneed⟩ := r.readField_cases c
  · cases hp
    decide
  · rw [readField_of_held B hpos ho hfit] at hp
    cases hp
    exact extract_toNat_lt B _ hc
  · rw [readField_of_fetch B hpos hneed] at hp
    obtain ⟨-, e⟩ | ⟨x, -, e⟩ | ⟨-, e⟩ | ⟨_, -, e⟩ := r.fetchByte_cases (.rReadBits c) _ <;> rw [e] at hp <;> cases hp
    · exact extract_toNat_lt B _ hc
    · exact Nat.two_pow_pos c
    · exact Nat.two_pow_pos c

/-- A command word as a number: its fields at their places (30_encoding.md R80). -/
theorem commandWord_eq_ofNat (imm : BitVec 16) (cnt : BitVec 4) (u : BitVec 1) (op : BitVec 4) :
    commandWord imm cnt u op =
      BitVec.ofNat 32 (imm.toNat <<< 16 ||| cnt.toNat <<< 8 ||| u.toNat <<< 4 ||| op.toNat) := by
  have hnat : (commandWord imm cnt u op).toNat =
      imm.toNat <<< 16 ||| cnt.toNat <<< 8 ||| u.toNat <<< 4 ||| op.toNat := by
    rw [commandWord, BitVec.toNat_append, BitVec.toNat_append, BitVec.toNat_append, BitVec.toNat_append,
      BitVec.toNat_append]
    simp [Nat.shiftLeft_or_distrib, ← Nat.shiftLeft_add]
  rw [← hnat, BitVec.ofNat_toNat, BitVec.setWidth_eq]

theorem encode_rReadBits {c : Nat} (hc : c ≤ 15) : encode (.rReadBits c) = BitVec.ofNat 32 (c <<< 8 ||| 0x03) := by
  simp [encode, commandWord_eq_ofNat, Nat.mod_eq_of_lt (show c < 16 by omega)]

/-- Settles O20: a refused count, and the three cases of the others (`Reader.readField_cases`), each with its
equation. -/
theorem readBitsDeliversField : Obligations.ReadBitsDeliversField := by
  intro s c att h15
  refine ⟨encode_rReadBits h15, exec_rReadBits_of_gt att, ?_, fun hpos hc ho hfit => ?_,
    fun hpos hc hneed a ha => ?_, fun t p e hp hok => ?_⟩
  · rintro rfl
    exact exec_rReadBits att (Nat.zero_le 8)
  · rw [exec_rReadBits att hc, Reader.readField_of_held _ hpos ho hfit]
    rfl
  · rw [← Offset.eq_zero_iff] at hneed
    rw [exec_rReadBits att hc, Reader.readField_of_fetch _ hpos hneed, Reader.fetchByte, Reader.srcRead_of_answer ha]
    simp only [← Reader.window_eq]
    match a with
    | .data (x :: _) => rfl
    | .data [] => rfl
    | .err e => rfl
  · by_cases hc : c ≤ 8
    · rw [exec_rReadBits att hc] at e
      cases e
      exact Reader.result_lt_of_readField hc hp
    · rw [exec_rReadBits_of_gt att (by omega)] at e
      cases e
      cases hp
      cases hok

/-! ## `R_READ_BIT` as `R_READ_BITS 1` (R143) -/

/-- The field of one bit is that bit. -/
theorem extract_one (B : Endian) (v : Byte) : extract B v 1 = bitByte (bitAt B v 0) := by
  have htake : (byteBits B v).take 1 = [bitAt B v 0] := rfl
  rw [extract_eq_assemble B v (by omega), htake]
  cases B <;> cases bitAt _ v 0 <;> rfl

/-- Settles O24: a bit that is held is the field of that one bit, and for one that is not both fetch the byte. -/
theorem readBitIsReadBitsOne : Obligations.ReadBitIsReadBitsOne := by
  intro s
  cases att : s.reader.attached with
  | false =>
    refine ⟨s.setReader (s.reader.raise (.sequenceError .detached)), ?_, .inl ?_⟩
    · simp [exec, execRReadBit, State.onReader, Reader.whenAttached, att]
    · simp [exec, execRReadBits, State.onReader, Reader.whenAttached, att]
  | true =>
    have hlt := s.reader.off.isLt
    rw [exec_rReadBits att (by omega)]
    by_cases ho : s.reader.off = 0
    · have hwindow (x : Byte) : s.reader.window s.params.readerEndian x = x := if_pos (Reader.aligned_eq_true.mpr ho)
      simp only [exec_rReadBit_of_aligned att ho, Reader.readField_of_fetch _ le_rfl (.inl ho), hwindow, extract_one]
      refine ⟨_, rfl, ?_⟩
      obtain e | ⟨v, ei, ej⟩ := s.reader.fetchByte_eq_or_waits .rReadBit (.rReadBits 1) _
      · exact .inl (by rw [e])
      · exact .inr (by rw [ei, ej]; exact ⟨rfl, rfl⟩)
    · have hpos : s.reader.off.toNat ≠ 0 := mt Offset.eq_zero_iff.mpr ho
      refine ⟨_, exec_rReadBit_of_unaligned att ho, .inl ?_⟩
      rw [Reader.readField_of_held _ le_rfl (by omega) (by omega), extract_one, bitAt_shiftTowardMsb _ _ _ (by omega)]
      simp [hlt]

/-! ## `R_READ` (R141) -/

/-- What `R_READ` delivers of the bytes it gets: the bytes themselves, or, through the bit cursor, the walk over
them. -/
def Reader.delivered (B : Endian) (r : Reader) (xs : List Byte) : List Byte :=
  if r.aligned then xs else deliverShifted B r.off.toNat r.buf xs

theorem Reader.delivered_of_aligned (B : Endian) {r : Reader} (ho : r.off = 0) (xs : List Byte) :
    r.delivered B xs = xs := if_pos (Reader.aligned_eq_true.mpr ho)

theorem Reader.delivered_of_unaligned (B : Endian) {r : Reader} (ho : r.off ≠ 0) (xs : List Byte) :
    r.delivered B xs = deliverShifted B r.off.toNat r.buf xs := if_neg (by simpa using Reader.aligned_eq_false.mpr ho)

@[simp] theorem Reader.delivered_length (B : Endian) (r : Reader) (xs : List Byte) :
    (r.delivered B xs).length = xs.length := by
  unfold Reader.delivered
  split <;> simp

@[simp] theorem Reader.delivered_nil (B : Endian) (r : Reader) : r.delivered B [] = [] :=
  List.length_eq_zero_iff.mp (by simp)

/-- Byte by byte: the window over the first byte, then what a reader that holds it delivers of the others. -/
theorem Reader.delivered_cons (B : Endian) (r : Reader) (x : Byte) (xs : List Byte) :
    r.delivered B (x :: xs) = r.window B x :: (r.setCursor r.off x).delivered B xs := by
  by_cases ho : r.off = 0
  · simp [delivered, window, aligned, ho]
  · have hal : r.aligned = false := aligned_eq_false.mpr ho
    have hal' : (r.setCursor r.off x).aligned = false := hal
    simp [delivered, window, hal, hal', deliverShifted]

theorem exec_rRead_of_err {s : State} (att : s.reader.attached = true) {len : Nat} {e : ErrVal}
    (h : s.reader.port.answer len = some (.err e)) :
    exec (.rRead len) s =
      .next (s.setReader ((s.reader.setPort (s.reader.port.after len (.err e))).raise (.ioError (.portError e)))) := by
  simp [exec, execRRead, State.onReader_whenAttached att, Reader.srcRead_of_answer h]

theorem exec_rRead_of_data {s : State} (att : s.reader.attached = true) {len : Nat} {xs : List Byte}
    (h : s.reader.port.answer len = some (.data xs)) :
    exec (.rRead len) s = .next (s.setReader (((s.reader.setPort (s.reader.port.after len (.data xs))).setCursor
      s.reader.off (if s.reader.off = 0 then s.reader.buf else xs.getLastD s.reader.buf)).respond
        (.bytes (s.reader.delivered s.params.readerEndian xs)))) := by
  simp only [exec, execRRead, State.onReader_whenAttached att, Reader.srcRead_of_answer h, Reader.delivered,
    Reader.aligned_eq_true]
  split <;> rfl

/-- R141: each byte of the walk joins the bytes before and at its position. -/
theorem getD_deliverShifted (B : Endian) (o : Nat) (prev : Byte) (xs : List Byte) {j : Nat} (hj : j < xs.length) :
    (deliverShifted B o prev xs).getD j 0 = rcombine B ((prev :: xs).getD j 0) (xs.getD j 0) o := by
  induction xs generalizing prev j with
  | nil => cases hj
  | cons x xs ih =>
    cases j with
    | zero => rfl
    | succ j => exact ih x (Nat.lt_of_succ_lt_succ hj)

theorem getLastD_eq_getD (b : Byte) (xs : List Byte) : xs.getLastD b = (b :: xs).getD xs.length 0 := by
  induction xs generalizing b with
  | nil => rfl
  | cons x xs ih => exact (List.getLastD_cons).trans (ih x)

theorem encode_rRead {len : Nat} (hlen : len ≤ 65535) :
    encode (.rRead len) = BitVec.ofNat 32 (len <<< 16 ||| 0x0A) := by
  simp [encode, commandWord_eq_ofNat, Nat.mod_eq_of_lt (show len < 65536 by omega)]

/-- Settles O23: the walk's bytes (`getD_deliverShifted`), the last of which becomes the buffer. -/
theorem readDeliversBytes : Obligations.ReadDeliversBytes := by
  intro s len att hlen
  refine ⟨encode_rRead hlen, fun e h => exec_rRead_of_err att h, fun xs h ho => ?_, fun xs h ho =>
    ⟨deliverShifted s.params.readerEndian s.reader.off.toNat s.reader.buf xs, deliverShifted_length _ _ _ _,
      fun j hj => getD_deliverShifted _ _ _ _ hj, ?_⟩⟩
  · rw [exec_rRead_of_data att h, if_pos ho, Reader.delivered_of_aligned _ ho]
    rfl
  · rw [exec_rRead_of_data att h, if_neg ho, Reader.delivered_of_unaligned _ ho, getLastD_eq_getD, Response.bytes,
      deliverShifted_length]
    rfl

end Sys2Proof.Machine
end

section
/-! SUPPORT. A byte-stream read is as many reads of eight bits (41_reader.md R144). -/

namespace Sys2Proof.Machine

theorem extract_eight (B : Endian) (w : Byte) : extract B w 8 = w := by
  obtain ⟨-, -, -, -, -, -, -, hall⟩ := extractAssemblesFirstBits B w 8 le_rfl
  exact hall

theorem advance_eight (o : Offset) : advance o 8 = o :=
  BitVec.eq_of_toNat_eq (by rw [advance_toNat, Nat.add_mod_right, Nat.mod_eq_of_lt o.isLt])

/-- Eight bits are never all held: reading them takes a fetch at every offset. -/
theorem Offset.fetch_of_eight (o : Offset) : o = 0 ∨ 8 < o.toNat + 8 := by
  rw [Offset.eq_zero_iff]
  omega

/-- A read of eight bits whose fetch gets `x` answers the window over it, and the offset stays. -/
theorem Reader.readField_eight (B : Endian) {r : Reader} {x : Byte} (h : r.port.answer 1 = some (.data [x])) :
    r.readField B 8 = (r.setPort (r.port.after 1 (.data [x]))).finishRead r.off x (r.window B x) := by
  rw [readField_of_fetch B (by omega) (Offset.fetch_of_eight r.off), fetchByte, srcRead_of_answer h]
  simp only [advance_eight, extract_eight]

/-- Reads of eight bits that get the bytes `xs` one by one answer what `R_READ` delivers of them. -/
theorem readFields_eight {s : State} (att : s.reader.attached = true) {xs ys : List Byte}
    (hstream : s.reader.port.stream = xs ++ ys) (hdraws : s.reader.port.draws = List.replicate xs.length (.deliver 1)) :
    ∃ u, readFields (List.replicate xs.length 8) s = some (s.reader.delivered s.params.readerEndian xs, u) ∧
      u.reader.off = s.reader.off ∧ u.reader.buf = xs.getLastD s.reader.buf ∧ u.reader.port.stream = ys := by
  induction xs generalizing s with
  | nil => exact ⟨s, by simp [readFields], rfl, rfl, hstream⟩
  | cons x xs ih =>
    have hans : s.reader.port.answer 1 = some (.data [x]) := by
      rw [SrcPort.answer_of_deliver hdraws le_rfl, hstream]
      rfl
    have hexec := exec_rReadBits att (c := 8) le_rfl
    rw [Reader.readField_eight _ hans] at hexec
    obtain ⟨u, hu, hoff, hbuf, hrest⟩ := ih (s := s.setReader ((s.reader.setPort
      (s.reader.port.after 1 (.data [x]))).finishRead s.reader.off x (s.reader.window s.params.readerEndian x)))
      att (by simp [hstream]) (by simp [hdraws])
    refine ⟨u, ?_, hoff, hbuf.trans List.getLastD_cons.symm, hrest⟩
    rw [Reader.delivered_cons]
    simp [List.replicate_succ, readFields, answered, hexec, State.reply, Instr.engine, Response.value, hu]
    rfl

/-- Settles O25: `R_READ` delivers its bytes through the cursor, as reads of eight bits do one by one
(`readFields_eight`). -/
theorem readIsEightBitReads : Obligations.ReadIsEightBitReads := by
  intro s t len xs att h e
  rw [exec_rRead_of_data att h] at e
  cases e
  have hstream := SrcPort.stream_of_data h
  obtain ⟨u, hu, hoff, hbuf, hrest⟩ := readFields_eight (xs := xs)
    (s := s.setReader (s.reader.setPort
      { s.reader.port with draws := List.replicate xs.length (.deliver 1) })) att hstream rfl
  exact ⟨_, u, rfl, by simp [Response.bytes], hu, hoff, fun ho => hbuf.trans (if_neg ho).symm, hrest⟩

end Sys2Proof.Machine
end

section
/-! SUPPORT. The bits that a run of reader commands delivers are those of the source stream, in order (41_reader.md
R146). -/

namespace Sys2Proof.Machine

/-! ## Bits held before and after a read -/

theorem fieldBits_take (B : Endian) {bits : List Bool} {c : Nat} (hc : c ≤ 8) (hlen : c ≤ bits.length) :
    fieldBits B (BitVec.ofNat 8 (assemble B (bits.take c))) c = bits.take c := by
  have htake : (bits.take c).length = c := by simpa using hlen
  simpa only [htake] using fieldBits_assemble (B := B) (htake.trans_le hc)

/-- A field made of the first `c` bits to deliver, and the bits to deliver after it, make up those before. -/
theorem Reader.Feeding.bits_eq {B : Endian} {bits : List Bool} {v : Reader} {f : Byte} {c : Nat}
    (hrest : v.Feeding B (bits.drop c)) (hc : c ≤ 8) (hlen : c ≤ bits.length)
    (hvalue : f = BitVec.ofNat 8 (assemble B (bits.take c))) : bits = fieldBits B f c ++ v.ahead B := by
  rw [hvalue, fieldBits_take B hc hlen, hrest.ahead, List.take_append_drop]

/-- The reader attached to a source that holds `xs` and answers each fetch of a byte with one: the port does not matter
to the bits held, so that what is known of reading from such a source holds of every read. -/
def Reader.fedBy (r : Reader) (xs : List Byte) : Reader :=
  (r.setAttached true).setPort { stream := xs, draws := List.replicate xs.length (.deliver 1), drawn := 0, log := [] }

theorem Reader.fedBy_feeding (B : Endian) (r : Reader) (xs : List Byte) :
    (r.fedBy xs).Feeding B (r.heldBits B ++ streamBits B xs) := ⟨rfl, rfl, rfl⟩

/-- A field inside the partial byte takes its first bits from those held (R134). -/
theorem Reader.heldBits_of_readHeld (B : Endian) {r : Reader} {c : Nat} (ho : 1 ≤ r.off.toNat)
    (hfit : r.off.toNat + c ≤ 8) :
    r.heldBits B = fieldBits B (extract B (shiftTowardMsb B r.buf r.off.toNat) c) c ++
      (r.setCursor (advance r.off c) r.buf).heldBits B := by
  have hlen : c ≤ (r.heldBits B ++ streamBits B []).length := by
    obtain ⟨hz, -⟩ | ⟨-, -, hlen⟩ := r.heldBits_cases B
    · simp [hz] at ho
    · rw [List.length_append]
      omega
  obtain ⟨hvalue, hrest⟩ := (r.fedBy_feeding B []).readHeld ho hfit
  have hbits : r.heldBits B ++ streamBits B [] =
      fieldBits B (extract B (shiftTowardMsb B r.buf r.off.toNat) c) c ++
        ((r.setCursor (advance r.off c) r.buf).heldBits B ++ streamBits B []) := hrest.bits_eq (by omega) hlen hvalue
  simpa using hbits

/-- A byte is fetched for a field only if fewer bits are held (R134). -/
theorem Reader.heldBits_length_lt (B : Endian) (r : Reader) {c : Nat} (hpos : 1 ≤ c)
    (hneed : r.off = 0 ∨ 8 < r.off.toNat + c) : (r.heldBits B).length < c := by
  rw [Offset.eq_zero_iff] at hneed
  obtain ⟨-, hlen⟩ | ⟨ho, -, hlen⟩ := r.heldBits_cases B
  · omega
  · omega

/-- A field that goes on in the byte `x` takes the bits held, then the first of `x` (R134). -/
theorem Reader.heldBits_of_readFetched (B : Endian) {r : Reader} {c : Nat} (hc : c ≤ 8)
    (hlong : (r.heldBits B).length < c) (x : Byte) :
    r.heldBits B ++ byteBits B x = fieldBits B (extract B (r.window B x) c) c ++
      (r.setCursor (advance r.off c) x).heldBits B := by
  have hlen : c ≤ (r.heldBits B ++ streamBits B [x]).length := by
    rw [List.length_append, streamBits_length, List.length_singleton]
    omega
  obtain ⟨hvalue, hrest⟩ := (r.fedBy_feeding B [x]).readFetched hc hlong rfl (q := ⟨[], [], 0, []⟩) rfl rfl
  have hbits : r.heldBits B ++ streamBits B [x] = fieldBits B (extract B (r.window B x) c) c ++
      ((r.setCursor (advance r.off c) x).heldBits B ++ streamBits B []) := hrest.bits_eq hc hlen hvalue
  simpa using hbits

/-- A read that gets the bytes `xs` delivers the bits held, then those of `xs` but for the last held (R141). -/
theorem Reader.heldBits_of_read (B : Endian) (r : Reader) (xs : List Byte) :
    r.heldBits B ++ streamBits B xs =
      streamBits B (r.delivered B xs) ++ (r.setCursor r.off (xs.getLastD r.buf)).heldBits B := by
  induction xs generalizing r with
  | nil =>
    rw [delivered_nil]
    exact List.append_nil _
  | cons x xs ih =>
    have hlong : (r.heldBits B).length < 8 := r.heldBits_length_lt B (by omega) (Offset.fetch_of_eight r.off)
    have hx := r.heldBits_of_readFetched B le_rfl hlong x
    rw [extract_eight, fieldBits_eight, advance_eight] at hx
    have hxs := ih (r.setCursor r.off x)
    rw [Reader.delivered_cons, streamBits_cons, streamBits_cons, ← List.append_assoc, hx, List.append_assoc, hxs,
      List.append_assoc, List.getLastD_cons]
    rfl

/-! ## What one command delivers -/

/-- From `r` to `t` the reader has delivered `bits`: the next ones of those it had ahead. -/
structure Reader.Delivers (B : Endian) (bits : List Bool) (r t : Reader) : Prop where
  attached : t.attached = true
  taken : t.port.stream <:+ r.port.stream
  ahead : r.ahead B = bits ++ t.ahead B

theorem Reader.Delivers.refl (B : Endian) {r : Reader} (att : r.attached = true) : r.Delivers B [] r :=
  ⟨att, List.suffix_rfl, rfl⟩

theorem Reader.Delivers.trans {B : Endian} {bits bits' : List Bool} {r t u : Reader} (h : r.Delivers B bits t)
    (h' : t.Delivers B bits' u) : r.Delivers B (bits ++ bits') u :=
  ⟨h'.attached, h'.taken.trans h.taken, by rw [h.ahead, h'.ahead, List.append_assoc]⟩

/-- If `t` has answered the command `i`, which `r` was given, its response has delivered the bits it carries. -/
def Reader.Answers (B : Endian) (i : Instr) (r t : Reader) : Prop :=
  ∀ p, t.rsp = .response p → r.Delivers B (deliveredBits B i p) t

section
variable {B : Endian} {i : Instr} {r : Reader} (att : r.attached = true)

/-- A response, after what it delivers has been taken off the bits ahead. -/
theorem Reader.Answers.of_ahead {t : Reader} {p : Response} (ht : t.attached = true)
    (htaken : t.port.stream <:+ r.port.stream) (hahead : r.ahead B = deliveredBits B i p ++ t.ahead B) :
    r.Answers B i (t.respond p) := by
  rintro _ ⟨⟩
  exact ⟨ht, htaken, hahead⟩

theorem Reader.Answers.await (t : Reader) (j : Job) (q : Request) : r.Answers B i (t.await j q) := by
  rintro _ ⟨⟩

include att

/-- A response that carries no bits, with the cursor and the stream as they were. -/
theorem Reader.Answers.of_kept {p : Response} (hp : deliveredBits B i p = []) : r.Answers B i (r.respond p) :=
  .of_ahead att List.suffix_rfl (by rw [hp, List.nil_append])

/-- A failed transfer, which has taken nothing from the source. -/
theorem Reader.Answers.raise {q : SrcPort} (hq : q.stream = r.port.stream) (c : IoCause) :
    r.Answers B i ((r.setPort q).raise (.ioError c)) :=
  .of_ahead att (by simp [hq]) (by rw [ahead, ahead, setPort_port, hq]; rfl)

theorem Reader.readField_answers {c : Nat} (hc : c ≤ 8) : r.Answers B (.rReadBits c) (r.readField B c) := by
  obtain rfl | ⟨hpos, ho, hfit⟩ | ⟨hpos, hneed⟩ := r.readField_cases c
  · exact .of_kept att rfl
  · rw [readField_of_held B hpos ho hfit]
    refine .of_ahead att List.suffix_rfl ?_
    rw [ahead_eq, r.heldBits_of_readHeld B ho hfit, List.append_assoc]
    rfl
  · rw [readField_of_fetch B hpos hneed]
    obtain ⟨-, e⟩ | ⟨x, h, e⟩ | ⟨-, e⟩ | ⟨_, -, e⟩ := r.fetchByte_cases (.rReadBits c) _ <;> rw [e]
    · exact .await _ _ _
    · have hlong : (r.heldBits B).length < c := r.heldBits_length_lt B hpos hneed
      have hstream := SrcPort.stream_of_data h
      refine .of_ahead att ⟨[x], hstream.symm⟩ ?_
      rw [ahead_eq, hstream, List.singleton_append, streamBits_cons, ← List.append_assoc,
        heldBits_of_readFetched B hc hlong, List.append_assoc]
      rfl
    · exact .raise att (r.port.after_data_stream 1 []) _
    · exact .raise att (r.port.after_err_stream 1 _) _

end

/-- `R_READ_BIT` and `R_READ_BITS 1` give the same bit by the same response. -/
theorem deliveredBits_rReadBit (B : Endian) (p : Response) :
    deliveredBits B .rReadBit p = deliveredBits B (.rReadBits 1) p := by
  obtain ⟨st, -⟩ := p
  cases st <;> rfl

section
variable {s : State} (att : s.reader.attached = true)
include att

theorem exec_rReadBit_answers :
    ∃ t, exec .rReadBit s = .next (s.setReader t) ∧ s.reader.Answers s.params.readerEndian .rReadBit t := by
  obtain ⟨t, e, h⟩ := readBitIsReadBitsOne s
  refine ⟨t.reader, by rw [e, ← exec_reader rfl e], fun p hp => ?_⟩
  obtain hbits | ⟨hwait, -⟩ := h
  · rw [exec_rReadBits att (by omega)] at hbits
    cases hbits
    rw [deliveredBits_rReadBit]
    exact Reader.readField_answers att (by omega) p hp
  · rw [hwait] at hp
    cases hp

theorem exec_rRead_answers (len : Nat) :
    ∃ t, exec (.rRead len) s = .next (s.setReader t) ∧ s.reader.Answers s.params.readerEndian (.rRead len) t := by
  cases h : s.reader.port.answer len with
  | none =>
    refine ⟨(s.reader.setPort s.reader.port.silent).await (.command (.rRead len)) (.srcRead len), ?_, .await _ _ _⟩
    simp [exec, execRRead, State.onReader_whenAttached att, Reader.srcRead, h]
  | some a =>
    cases a with
    | err e => exact ⟨_, exec_rRead_of_err att h, .raise att (s.reader.port.after_err_stream len e) _⟩
    | data xs =>
      have hstream := SrcPort.stream_of_data h
      refine ⟨_, exec_rRead_of_data att h, .of_ahead att ⟨xs, hstream.symm⟩ ?_⟩
      rw [Reader.ahead_eq, hstream, streamBits_append, ← List.append_assoc, Reader.heldBits_of_read, List.append_assoc]
      by_cases ho : s.reader.off = 0
      · simp [Reader.ahead, Reader.heldBits, deliveredBits, Response.bytes, ho]
      · rw [if_neg ho]
        rfl

/-- Every reader command but `R_ALIGN` and the two that detach delivers the next bits ahead, or none. -/
theorem exec_answers {i : Instr} (hi : i.engine = .reader) (hgoes : i ≠ .rAlign ∧ i ≠ .rIntoInner ∧ i ≠ .rDrop) :
    ∃ t, exec i s = .next (s.setReader t) ∧ s.reader.Answers s.params.readerEndian i t := by
  obtain ⟨halign, hinto, hdrop⟩ := hgoes
  cases i with
  | rNew =>
    rw [exec_rNew, if_pos att]
    exact ⟨_, rfl, .of_kept att rfl⟩
  | rReadBit => exact exec_rReadBit_answers att
  | rReadBits c =>
    by_cases hc : c ≤ 8
    · exact ⟨_, exec_rReadBits att hc, Reader.readField_answers att hc⟩
    · exact ⟨_, exec_rReadBits_of_gt att (by omega), .of_kept att rfl⟩
  | rIsAligned => exact ⟨_, exec_rIsAligned att, .of_kept att rfl⟩
  | rAlign => exact absurd rfl halign
  | rGetRef => exact ⟨_, exec_rGetRef att, .of_kept att rfl⟩
  | rGetMut =>
    refine ⟨_, exec_rGetMut att, ?_⟩
    split
    · exact .of_kept att rfl
    · exact .of_kept att rfl
  | rGetMutUnchecked => exact ⟨_, exec_rGetMutUnchecked att, .of_kept att rfl⟩
  | rIntoInner => exact absurd rfl hinto
  | rRead len => exact exec_rRead_answers att len
  | rDrop => exact absurd rfl hdrop
  | _ => cases hi

end

/-! ## What a run delivers -/

/-- A command that has been answered has given a next state, whose response port holds the response. -/
theorem answered_eq_some {i : Instr} {s t : State} {p : Response} :
    answered i s = some (p, t) ↔ exec i s = .next t ∧ t.reply i.engine = .response p := by
  unfold answered
  cases exec i s with
  | next u =>
    simp only [Option.map_eq_some_iff, Reply.given_eq_some, Prod.mk.injEq, Host.Outcome.next.injEq]
    constructor
    · rintro ⟨_, hp, rfl, rfl⟩
      exact ⟨rfl, hp⟩
    · rintro ⟨rfl, hp⟩
      exact ⟨p, hp, rfl, rfl⟩
  | fault r => cases r
  | refused r => simp

theorem runDelivering_cons_eq_some {i : Instr} {is : List Instr} {s t : State} {bits : List Bool}
    (h : runDelivering (i :: is) s = some (bits, t)) : ∃ p u later, answered i s = some (p, u) ∧
      runDelivering is u = some (later, t) ∧ bits = deliveredBits s.params.readerEndian i p ++ later := by
  obtain ⟨⟨p, u⟩, hans, hmap⟩ := Option.bind_eq_some_iff.mp h
  obtain ⟨⟨later, _⟩, hrun, heq⟩ := Option.map_eq_some_iff.mp hmap
  cases heq
  exact ⟨p, u, later, hans, hrun, rfl⟩

/-- A run without `R_ALIGN` and without a teardown delivers the next bits ahead. -/
theorem runDelivering_delivers {is : List Instr}
    (his : ∀ i ∈ is, i.engine = .reader ∧ i ≠ .rAlign ∧ i ≠ .rIntoInner ∧ i ≠ .rDrop) {s t : State} {bits : List Bool}
    (att : s.reader.attached = true) (h : runDelivering is s = some (bits, t)) :
    s.reader.Delivers s.params.readerEndian bits t.reader := by
  induction is generalizing s bits with
  | nil =>
    cases h
    exact .refl _ att
  | cons i is ih =>
    obtain ⟨⟨hi, hgoes⟩, his⟩ := List.forall_mem_cons.mp his
    obtain ⟨p, u, later, hans, hrun, rfl⟩ := runDelivering_cons_eq_some h
    obtain ⟨e, hp⟩ := answered_eq_some.mp hans
    rw [hi] at hp
    obtain ⟨r, er, hr⟩ := exec_answers att hi hgoes
    obtain rfl : s.setReader r = u := Host.Outcome.next.inj (er.symm.trans e)
    have hfirst := hr p hp
    exact hfirst.trans (ih his hfirst.attached hrun)

/-- Settles O27: after `R_NEW` the bits ahead are the source's, a run delivers the first of them
(`runDelivering_delivers`), and the bits still ahead at its end give how many. -/
theorem deliveredBitsAreTheSourceStream : Obligations.DeliveredBitsAreTheSourceStream := by
  intro s t is bits det his h
  obtain ⟨p, u, later, hans, hrun, rfl⟩ := runDelivering_cons_eq_some h
  obtain ⟨e, hp⟩ := answered_eq_some.mp hans
  rw [exec_rNew, if_neg (by simp [det])] at e
  cases e
  cases hp
  have hrun := runDelivering_delivers his rfl hrun
  obtain ⟨taken, htaken⟩ : t.reader.port.stream <:+ s.reader.port.stream := hrun.taken
  have hahead : streamBits s.params.readerEndian s.reader.port.stream = later ++ t.reader.ahead s.params.readerEndian :=
    hrun.ahead
  have hbits : deliveredBits s.params.readerEndian .rNew .okay ++ later = later := rfl
  have hlen := congrArg List.length hahead
  rw [← htaken, Reader.ahead_eq] at hlen
  refine ⟨taken, htaken.symm, ?_, ?_⟩
  · rw [hbits, hahead, List.take_left]
  · rw [hbits]
    rw [List.length_append, List.length_append, streamBits_length, streamBits_length, List.length_append] at hlen
    obtain ⟨ho, hheld⟩ | ⟨ho, -, hheld⟩ := t.reader.heldBits_cases s.params.readerEndian
    · rw [if_pos ho]
      omega
    · rw [if_neg fun hz => by simp [hz] at ho]
      omega

end Sys2Proof.Machine
end

section
/-! SUPPORT. What each writer command makes of an attached writer (42_writer.md R173 to R184, R189): one equation per
command, or one per case of it. -/

namespace Sys2Proof.Machine

/-! ## Operations of an attached writer -/

theorem Writer.aligned_eq_false {w : Writer} : w.aligned = false ↔ w.off ≠ 0 := beq_eq_false_iff_ne

/-- A command behind the attachment check, given to an attached writer. -/
theorem State.onWriter_whenAttached {s : State} (att : s.writer.attached = true) (k : Params → Writer → Writer) :
    s.onWriter (fun p w => w.whenAttached (k p w)) = .next (s.setWriter (k s.params s.writer)) := by
  simp [State.onWriter, Writer.whenAttached, att]

theorem Writer.snkWrite_of_answer {w : Writer} {xs : List Byte} {a : SnkAnswer} (h : w.port.answer xs = some a)
    (i : Instr) (k : SnkAnswer → Writer → Writer) : w.snkWrite i xs k = k a (w.setPort (w.port.after xs a)) := by
  simp [Writer.snkWrite, h]

theorem Writer.snkFlush_of_answer {w : Writer} {a : FlushAnswer} (h : w.port.flushAnswer = some a) (i : Instr)
    (k : FlushAnswer → Writer → Writer) : w.snkFlush i k = k a (w.setPort (w.port.afterFlush a)) := by
  simp [Writer.snkFlush, h]

theorem Writer.flushPartial_of_aligned {w : Writer} (ho : w.off = 0) (i : Instr) (failed : IoCause → Status)
    (k : Writer → Writer) : w.flushPartial i failed k = k w :=
  if_pos (Writer.aligned_eq_true.mpr ho)

theorem Writer.flushPartial_of_unaligned {w : Writer} (ho : w.off ≠ 0) (i : Instr) (failed : IoCause → Status)
    (k : Writer → Writer) : w.flushPartial i failed k = w.sinkByte i w.buf failed fun w' => k (w'.setCursor 0 0) :=
  if_neg (mt Writer.aligned_eq_true.mp ho)

/-! ## `W_NEW` (R173) -/

theorem exec_wNew (len : Nat) (s : State) :
    exec (.wNew len) s = .next (s.setWriter
      (if s.writer.attached then s.writer.raise (.sequenceError .alreadyAttached)
       else ((((s.writer.setAttached true).setCursor 0 0).setCap (capacityOf len)).setReleased false).respond .okay)) :=
  rfl

theorem capacityOf_toNat {len : Nat} (hlen : len ≤ 65535) :
    (capacityOf len).toNat = if len = 0 then 16 else len := by
  unfold capacityOf
  split
  · rfl
  · exact Nat.mod_eq_of_lt (Nat.lt_succ_of_le hlen)

theorem encode_wNew {len : Nat} (hlen : len ≤ 65535) :
    encode (.wNew len) = BitVec.ofNat 32 (len <<< 16 ||| 0x11) := by
  simp [encode, commandWord_eq_ofNat, Nat.mod_eq_of_lt (show len < 65536 by omega), Nat.or_assoc]

/-- Settles O29: `W_NEW` of a detached writer and of an attached one. -/
theorem newWriterAttaches : Obligations.NewWriterAttaches := by
  refine fun s len hlen => ⟨encode_wNew hlen, fun det => ?_, fun att => ?_⟩
  · rw [exec_wNew, if_neg (by simp [det])]
    exact ⟨_, rfl, capacityOf_toNat hlen, rfl⟩
  · rw [exec_wNew, if_pos att]
    rfl

/-! ## The queries and grants (R176, R178 to R180) -/

section
variable {s : State} (att : s.writer.attached = true)
include att

theorem exec_wIsAligned :
    exec .wIsAligned s = .next (s.setWriter (s.writer.respond (.value (flagResult s.writer.aligned)))) := by
  rw [exec, execWIsAligned, State.onWriter_whenAttached att]

theorem exec_wGetRef : exec .wGetRef s = .next (s.setWriter (s.writer.respond (.granting .ref))) := by
  rw [exec, execWGetRef, State.onWriter_whenAttached att]

theorem exec_wGetMut :
    exec .wGetMut s = .next (s.setWriter
      (if s.writer.aligned then s.writer.respond (.granting .mut)
       else s.writer.raise (.programmerError .getMutUnaligned))) := by
  rw [exec, execWGetMut, State.onWriter_whenAttached att]

theorem exec_wGetMutUnchecked :
    exec .wGetMutUnchecked s = .next (s.setWriter (s.writer.respond (.granting .mutUnchecked))) := by
  rw [exec, execWGetMutUnchecked, State.onWriter_whenAttached att]

end

/-- Settles O33: an attached writer answers each of the four at once, and only `W_GET_MUT` looks at the offset first. -/
theorem writerQueriesAnswer : Obligations.WriterQueriesAnswer := by
  refine ⟨rfl, rfl, rfl, rfl, fun s att =>
    ⟨?_, exec_wGetRef att, exec_wGetMutUnchecked att, fun ho => ?_, fun ho => ?_⟩⟩
  · rw [exec_wIsAligned att, flagResult]
    simp only [Writer.aligned_eq_true]
    rfl
  · rw [exec_wGetMut att, if_pos (Writer.aligned_eq_true.mpr ho)]
    rfl
  · rw [exec_wGetMut att, if_neg (mt Writer.aligned_eq_true.mp ho)]
    rfl

/-! ## `W_WRITE_BIT` (R174) -/

section
variable {s : State} (att : s.writer.attached = true) (bit : Bool)
include att

/-- Below offset 7 the bit joins the pending ones. -/
theorem exec_wWriteBit_of_partial (ho : s.writer.off ≠ 7) :
    exec (.wWriteBit bit) s = .next (s.setWriter ((s.writer.setCursor (advance s.writer.off 1)
      (s.writer.buf ||| shl8 (bitByte bit) (pos s.params.writerEndian s.writer.off.toNat))).respond .okay)) := by
  have hne : s.writer.off.toNat ≠ 7 := fun e => ho (BitVec.eq_of_toNat_eq e)
  simp [exec, execWWriteBit, State.onWriter_whenAttached att, hne]

/-- At offset 7 the bit completes the byte. -/
theorem exec_wWriteBit_of_last (ho : s.writer.off = 7) :
    exec (.wWriteBit bit) s = .next (s.setWriter (s.writer.sinkByte (.wWriteBit bit)
      (s.writer.buf ||| shl8 (bitByte bit) (pos s.params.writerEndian s.writer.off.toNat)) .ioError fun w' =>
        (w'.setCursor 0 0).respond .okay)) := by
  have hlast : s.writer.off.toNat = 7 := by rw [ho]; rfl
  have hzero : advance s.writer.off 1 = 0 := by rw [ho]; rfl
  simp only [exec, execWWriteBit, State.onWriter_whenAttached att, if_pos hlast, hzero]

end

/-- The bit as a byte, laid at a place, in the terms of R174. -/
theorem shl8_bitByte (bit : Bool) (k : Nat) : shl8 (bitByte bit) k = if bit then 1#8 <<< k else 0 := by
  cases bit with
  | false => exact BitVec.zero_shiftLeft k
  | true => rfl

/-- Settles O30: the bit joins the pending ones, or completes the byte, whatever the sink answers. -/
theorem writeBitDepositsBit : Obligations.WriteBitDepositsBit := by
  intro s bit att
  dsimp only
  rw [← shl8_bitByte]
  refine ⟨by cases bit <;> rfl, fun ho => ?_, fun ho a ha => ?_⟩
  · rw [exec_wWriteBit_of_partial att bit ho, advance_one]
    rfl
  · rw [exec_wWriteBit_of_last att bit ho, Writer.sinkByte, Writer.snkWrite_of_answer ha]
    match a with
    | .ack 0 => rfl
    | .ack (_ + 1) => rfl
    | .err e => rfl

/-! ## `W_WRITE_BITS` (R175) -/

section
variable (B : Endian) {w : Writer} (bits : Byte) {c : Nat}

/-- A field that does not complete the byte joins the pending bits. -/
theorem Writer.writeField_of_partial (hfit : w.off.toNat + c < 8) :
    w.writeField B bits c = (w.setCursor (advance w.off c)
      (w.buf ||| shiftTowardLsb B (place B bits c) w.off.toNat)).respond .okay :=
  if_neg (Nat.not_le_of_lt hfit)

/-- A field that completes the byte leaves its other bits pending. -/
theorem Writer.writeField_of_full (hfull : 8 ≤ w.off.toNat + c) :
    w.writeField B bits c =
      w.sinkByte (.wWriteBits bits c) (w.buf ||| shiftTowardLsb B (place B bits c) w.off.toNat) .ioError fun w' =>
        (w'.setCursor (advance w.off c) (shiftTowardMsb B (place B bits c) (8 - w.off.toNat))).respond .okay :=
  if_pos hfull

end

theorem exec_wWriteBits_of_gt {s : State} (att : s.writer.attached = true) (bits : Byte) {c : Nat} (hc : 8 < c) :
    exec (.wWriteBits bits c) s = .next (s.setWriter (s.writer.raise (.programmerError .countGt8))) := by
  simp [exec, execWWriteBits, State.onWriter_whenAttached att, countTooLarge, hc]

theorem encode_wWriteBits (bits : Byte) {c : Nat} (hc : c ≤ 15) :
    encode (.wWriteBits bits c) = BitVec.ofNat 32 (bits.toNat <<< 16 ||| c <<< 8 ||| 0x13) := by
  have himm : (0#8 ++ bits).toNat = bits.toNat := by
    rw [BitVec.toNat_append, BitVec.toNat_zero, Nat.zero_shiftLeft, Nat.zero_or]
  simp [encode, commandWord_eq_ofNat, himm, Nat.mod_eq_of_lt (show c < 16 by omega), Nat.or_assoc]

/-- Settles O31: a refused count, a field that does not complete the byte, and one that does, whatever the sink
answers. -/
theorem writeBitsDepositsField : Obligations.WriteBitsDepositsField := by
  intro s bits c att h15
  refine ⟨encode_wWriteBits bits h15, exec_wWriteBits_of_gt att bits, fun hfit => ?_, fun hc hfull a ha => ?_⟩
  · rw [exec_wWriteBits att bits (by omega), Writer.writeField_of_partial _ bits hfit]
    rfl
  · rw [exec_wWriteBits att bits hc, Writer.writeField_of_full _ bits hfull, Writer.sinkByte,
      Writer.snkWrite_of_answer ha]
    match a with
    | .ack 0 => rfl
    | .ack (_ + 1) => rfl
    | .err e => rfl

/-! ## The commands that flush the partial byte (R177, R181, R183, R184) -/

section
variable {s : State} (att : s.writer.attached = true)
include att

theorem exec_wAlign :
    exec .wAlign s = .next (s.setWriter (s.writer.flushPartial .wAlign .ioError fun w' => w'.respond .okay)) := by
  rw [exec, execWAlign, State.onWriter_whenAttached att]

theorem exec_wIntoInner :
    exec .wIntoInner s = .next (s.setWriter (s.writer.flushPartial .wIntoInner .flushOnUnwrap fun w' =>
      ((w'.setAttached false).setReleased true).respond (.granting .released))) := by
  rw [exec, execWIntoInner, State.onWriter_whenAttached att]

theorem exec_wFlush_of_attached :
    exec .wFlush s = .next (s.setWriter (s.writer.flushPartial .wFlush .ioError Writer.requestFlush)) := by
  rw [exec_wFlush, Writer.whenAttached, if_pos att]

/-- A partial byte is offered, and whatever the sink answers, the writer is detached (R184). -/
theorem exec_wDrop_of_unaligned (ho : s.writer.off ≠ 0) :
    exec .wDrop s = .next (s.setWriter (s.writer.snkWrite .wDrop [s.writer.buf] fun _ w' =>
      ((w'.setAttached false).setCursor 0 0).respond .okay)) := by
  simp [exec, execWDrop, State.onWriter, att, Writer.aligned_eq_false.mpr ho]

theorem exec_wDrop_of_aligned (ho : s.writer.off = 0) :
    exec .wDrop s = .next (s.setWriter (((s.writer.setAttached false).setCursor 0 0).respond .okay)) := by
  simp [exec, execWDrop, State.onWriter, att, Writer.aligned_eq_true.mpr ho]

end

theorem exec_wDrop_of_detached {s : State} (det : s.writer.attached = false) :
    exec .wDrop s = .next (s.setWriter (s.writer.respond .okay)) := by
  simp [exec, execWDrop, State.onWriter, det]

/-- Settles O34: nothing at offset 0, and otherwise the partial byte, whatever the sink answers. -/
theorem alignWritesPartialByte : Obligations.AlignWritesPartialByte := by
  refine ⟨rfl, fun s att => ⟨fun ho => ?_, fun ho a ha => ?_⟩⟩
  · rw [exec_wAlign att, Writer.flushPartial_of_aligned ho]
    rfl
  · rw [exec_wAlign att, Writer.flushPartial_of_unaligned ho, Writer.sinkByte, Writer.snkWrite_of_answer ha]
    match a with
    | .ack 0 => rfl
    | .ack (_ + 1) => rfl
    | .err e => rfl

/-- Settles O35: the sink is released at once at offset 0, and otherwise once it has taken the partial byte. -/
theorem intoInnerFlushesAndReleases : Obligations.IntoInnerFlushesAndReleases := by
  refine ⟨rfl, fun s att => ⟨fun ho => ?_, fun ho a ha => ?_⟩⟩
  · rw [exec_wIntoInner att, Writer.flushPartial_of_aligned ho]
    rfl
  · rw [exec_wIntoInner att, Writer.flushPartial_of_unaligned ho, Writer.sinkByte, Writer.snkWrite_of_answer ha]
    match a with
    | .ack 0 => rfl
    | .ack (_ + 1) => rfl
    | .err e => rfl

/-- The flush request at the end of `W_FLUSH`, once the sink has answered it (R183). -/
theorem Writer.requestFlush_of_answer {w : Writer} {f : FlushAnswer} (h : w.port.flushAnswer = some f) :
    w.requestFlush = { w with
      port := w.port.afterFlush f
      rsp := .response { status := match f with
        | .ok => .ok
        | .err e => .ioError (.portError e) } } := by
  rw [Writer.requestFlush, Writer.snkFlush_of_answer h]
  cases f <;> rfl

/-- Settles O37: the flush request at once at offset 0, and otherwise once the sink has taken the partial byte. -/
theorem flushWritesThenFlushes : Obligations.FlushWritesThenFlushes := by
  refine ⟨rfl, fun s att => ⟨fun ho f hf => ?_, fun ho a ha => ?_⟩⟩
  · rw [exec_wFlush_of_attached att, Writer.flushPartial_of_aligned ho, Writer.requestFlush_of_answer hf]
    cases f <;> rfl
  · rw [exec_wFlush_of_attached att, Writer.flushPartial_of_unaligned ho, Writer.sinkByte,
      Writer.snkWrite_of_answer ha]
    match a with
    | .ack 0 => rfl
    | .ack (m + 1) =>
      intro f hf
      have hreq := Writer.requestFlush_of_answer
        (w := (s.writer.setPort (s.writer.port.after [s.writer.buf] (.ack (m + 1)))).setCursor 0 0) hf
      dsimp only
      rw [hreq]
      cases f <;> rfl
    | .err e => rfl

/-- Settles O38: nothing for a detached writer, and for an attached one the write of a partial byte, whatever the sink
answers. -/
theorem dropWritesAndDetaches : Obligations.DropWritesAndDetaches := by
  refine ⟨rfl, fun s => ⟨exec_wDrop_of_detached, exec_wDrop_of_aligned, fun att ho a ha => ?_⟩⟩
  rw [exec_wDrop_of_unaligned att ho, Writer.snkWrite_of_answer ha]
  rfl

/-- Settles O39: both make no transfer at offset 0 and otherwise offer the partial byte; where the sink is silent both wait
for it, and an answer leaves the same port whether `W_ALIGN` succeeds or not. -/
theorem dropMakesAlignTransfer : Obligations.DropMakesAlignTransfer := by
  intro s att
  by_cases ho : s.writer.off = 0
  · rw [exec_wDrop_of_aligned att ho, exec_wAlign att, Writer.flushPartial_of_aligned ho]
    exact ⟨_, _, rfl, rfl, rfl, rfl, .inl ⟨rfl, _, _, rfl, rfl⟩⟩
  · rw [exec_wDrop_of_unaligned att ho, exec_wAlign att, Writer.flushPartial_of_unaligned ho, Writer.sinkByte]
    cases ha : s.writer.port.answer [s.writer.buf] with
    | none =>
      simp only [Writer.snkWrite, ha]
      exact ⟨_, _, rfl, rfl, rfl, rfl, .inr ⟨_, rfl, rfl⟩⟩
    | some a =>
      rw [Writer.snkWrite_of_answer ha, Writer.snkWrite_of_answer ha]
      refine ⟨_, _, rfl, rfl, ?_⟩
      match a with
      | .ack 0 => exact ⟨rfl, rfl, .inl ⟨rfl, _, _, rfl, rfl⟩⟩
      | .ack (_ + 1) => exact ⟨rfl, rfl, .inl ⟨rfl, _, _, rfl, rfl⟩⟩
      | .err e => exact ⟨rfl, rfl, .inl ⟨rfl, _, _, rfl, rfl⟩⟩

/-! ## `W_WRITE` (R182) -/

/-- What `W_WRITE` offers of its data bytes: the bytes themselves, or, through the bit cursor, the staging pass over the
first of them. -/
def Writer.offered (mode : StagingMode) (B : Endian) (w : Writer) (d : List Byte) : List Byte :=
  if w.aligned then d else stageShifted B w.off.toNat w.buf (d.take (stagedCount mode w.cap d.length))

/-- The buffer that `W_WRITE` leaves once the sink has taken `m` bytes: through the bit cursor, the tail of the last data
byte taken. -/
def Writer.leftOver (B : Endian) (w : Writer) (d : List Byte) (m : Nat) : Byte :=
  if w.off = 0 ∨ m = 0 then w.buf else wtail B (d.getD (m - 1) 0) w.off.toNat

section
variable (mode : StagingMode) (B : Endian) {w : Writer}

theorem Writer.offered_of_aligned (ho : w.off = 0) (d : List Byte) : w.offered mode B d = d :=
  if_pos (Writer.aligned_eq_true.mpr ho)

theorem Writer.offered_of_unaligned (ho : w.off ≠ 0) (d : List Byte) :
    w.offered mode B d = stageShifted B w.off.toNat w.buf (d.take (stagedCount mode w.cap d.length)) :=
  if_neg (mt Writer.aligned_eq_true.mp ho)

/-- The body of `W_WRITE`: the sink is silent on the offer and the writer waits, or it takes some of the bytes, or it
answers with an error. -/
theorem Writer.writeBytes_cases (w : Writer) (len : Nat) (d : List Byte) :
    (w.port.answer (w.offered mode B d) = none ∧
        w.writeBytes mode B len d =
          (w.setPort w.port.silent).await (.command (.wWrite len)) (.snkWrite (w.offered mode B d))) ∨
      (∃ m, w.port.answer (w.offered mode B d) = some (.ack m) ∧
        w.writeBytes mode B len d = ((w.setPort (w.port.after (w.offered mode B d) (.ack m))).setCursor w.off
          (w.leftOver B d m)).respond (.count m)) ∨
      (∃ e, w.port.answer (w.offered mode B d) = some (.err e) ∧
        w.writeBytes mode B len d =
          (w.setPort (w.port.after (w.offered mode B d) (.err e))).raise (.ioError (.portError e))) := by
  unfold Writer.writeBytes Writer.offered Writer.leftOver
  simp only [Writer.aligned_eq_true]
  by_cases ho : w.off = 0
  · simp only [if_pos ho, if_pos (Or.inl ho)]
    obtain ⟨h, e⟩ | ⟨a, h, e⟩ := w.snkWrite_cases (.wWrite len) d _ <;> rw [e]
    · exact .inl ⟨h, rfl⟩
    · cases a with
      | ack m => exact .inr (.inl ⟨m, h, rfl⟩)
      | err v => exact .inr (.inr ⟨v, h, rfl⟩)
  · simp only [if_neg ho]
    obtain ⟨h, e⟩ | ⟨a, h, e⟩ := w.snkWrite_cases (.wWrite len) (stageShifted B w.off.toNat w.buf
      (d.take (stagedCount mode w.cap d.length))) _ <;> rw [e]
    · exact .inl ⟨h, rfl⟩
    · match a with
      | .ack 0 => exact .inr (.inl ⟨0, h, by rw [if_pos (Or.inr rfl)]; rfl⟩)
      | .ack (j + 1) => exact .inr (.inl ⟨j + 1, h, by rw [if_neg (by simpa using ho)]; rfl⟩)
      | .err v => exact .inr (.inr ⟨v, h, rfl⟩)

end

/-- `W_WRITE` whose data bytes have all come (R182). -/
theorem exec_wWrite {s : State} (att : s.writer.attached = true) {len : Nat} (hlen : len ≤ s.writer.dataIn.length) :
    exec (.wWrite len) s = .next (s.setWriter ((s.writer.writeBytes s.params.stagingMode s.params.writerEndian len
      (s.writer.dataIn.take len)).dropFrame len)) := by
  simp [exec, execWWrite, State.onWriter, Writer.takeData, hlen, Writer.whenAttached, att]

/-- `W_WRITE` whose data bytes have not all come. -/
theorem exec_wWrite_of_short {s : State} {len : Nat} (h : s.writer.dataIn.length < len) :
    exec (.wWrite len) s = .next (s.setWriter (s.writer.await (.command (.wWrite len)) (.dataIn len))) := by
  simp [exec, execWWrite, State.onWriter, Writer.takeData, Nat.not_le.mpr h]

/-- `W_WRITE` whose data bytes have all come: they stay on the channel while the sink is silent on the offer and leave it
with the response. -/
theorem exec_wWrite_cases {s : State} (att : s.writer.attached = true) {len : Nat} (hlen : len ≤ s.writer.dataIn.length)
    {offer : List Byte}
    (hoffer : s.writer.offered s.params.stagingMode s.params.writerEndian (s.writer.dataIn.take len) = offer) :
    (s.writer.port.answer offer = none ∧
        exec (.wWrite len) s = .next (s.setWriter
          ((s.writer.setPort s.writer.port.silent).await (.command (.wWrite len)) (.snkWrite offer)))) ∨
      (∃ m, s.writer.port.answer offer = some (.ack m) ∧
        exec (.wWrite len) s = .next (s.setWriter ((((s.writer.setPort (s.writer.port.after offer (.ack m))).setCursor
          s.writer.off (s.writer.leftOver s.params.writerEndian (s.writer.dataIn.take len) m)).setDataIn
            (s.writer.dataIn.drop len)).respond (.count m)))) ∨
      (∃ e, s.writer.port.answer offer = some (.err e) ∧
        exec (.wWrite len) s = .next (s.setWriter (((s.writer.setPort (s.writer.port.after offer (.err e))).setDataIn
          (s.writer.dataIn.drop len)).raise (.ioError (.portError e))))) := by
  subst hoffer
  rw [exec_wWrite att hlen]
  obtain ⟨h, e⟩ | ⟨m, h, e⟩ | ⟨v, h, e⟩ :=
    s.writer.writeBytes_cases s.params.stagingMode s.params.writerEndian len (s.writer.dataIn.take len) <;> rw [e]
  · exact .inl ⟨h, rfl⟩
  · exact .inr (.inl ⟨m, h, rfl⟩)
  · exact .inr (.inr ⟨v, h, rfl⟩)

/-- R182: each byte of the staging pass joins the bits pending before its data byte to the head of that byte. -/
theorem getD_stageShifted (B : Endian) (o : Nat) (prev : Byte) (ds : List Byte) {j : Nat} (hj : j < ds.length) :
    (stageShifted B o prev ds).getD j 0 =
      wcombine B (if j = 0 then prev else wtail B (ds.getD (j - 1) 0) o) (ds.getD j 0) o := by
  induction ds generalizing prev j with
  | nil => cases hj
  | cons d ds ih =>
    cases j with
    | zero => rfl
    | succ j =>
      have h := ih (wtail B d o) (Nat.lt_of_succ_lt_succ hj)
      cases j with
      | zero => exact h
      | succ j => exact h

theorem encode_wWrite {len : Nat} (hlen : len ≤ 65535) :
    encode (.wWrite len) = BitVec.ofNat 32 (len <<< 16 ||| 0x1A) := by
  simp [encode, commandWord_eq_ofNat, Nat.mod_eq_of_lt (show len < 65536 by omega), Nat.or_assoc]

/-- Settles O36: the offer is the data bytes, or the staging pass over the first of them (`getD_stageShifted`), and each
answer ends the command by its equation. -/
theorem writeOffersBytes : Obligations.WriteOffersBytes := by
  intro s len att h16 hlen
  refine ⟨encode_wWrite h16, ?_⟩
  intro w B d o k
  have hk : stagedCount s.params.stagingMode s.writer.cap d.length = k := by
    rw [List.length_take_of_le hlen]
    unfold k stagedCount
    cases s.params.stagingMode <;> rfl
  have hkd : k ≤ d.length := hk ▸ stagedCount_le _ _ _
  refine ⟨fun ho a ha => ?_, fun ho => ⟨stageShifted B o w.buf (d.take k), ?_, fun j hj => ?_, fun a ha => ?_⟩⟩
  · have hoffer := Writer.offered_of_aligned s.params.stagingMode B (w := s.writer) ho d
    obtain ⟨h, -⟩ | ⟨m, h, e⟩ | ⟨v, h, e⟩ := exec_wWrite_cases att hlen hoffer <;> cases ha.symm.trans h
    · rw [e, Writer.leftOver, if_pos (Or.inl ho)]
      rfl
    · exact e
  · rw [stageShifted_length, List.length_take_of_le hkd]
  · have htake (i : Nat) (hi : i < k) : (d.take k).getD i 0 = d.getD i 0 := by
      simp only [List.getD, List.getElem?_take_of_lt hi]
    rw [getD_stageShifted B o _ _ (by rwa [List.length_take_of_le hkd]), htake j hj, htake (j - 1) (by omega)]
  · have hoffer := Writer.offered_of_unaligned s.params.stagingMode B (w := s.writer) ho d
    rw [hk] at hoffer
    obtain ⟨h, -⟩ | ⟨m, h, e⟩ | ⟨v, h, e⟩ := exec_wWrite_cases att hlen hoffer <;> cases ha.symm.trans h
    · rw [e, Writer.leftOver]
      simp only [show ¬ s.writer.off = 0 from ho, false_or]
      rfl
    · exact e

end Sys2Proof.Machine
end

section
/-! SUPPORT. A field written at once and written bit by bit (42_writer.md R174, R175). -/

namespace Sys2Proof.Machine

/-! ## The bits of a field in two parts (40_policy.md R116, R120) -/

theorem shiftTowardLsb_or (B : Endian) (u v : Byte) (k : Nat) :
    shiftTowardLsb B (u ||| v) k = shiftTowardLsb B u k ||| shiftTowardLsb B v k :=
  eq_of_bitAt_eq (B := B) fun i hi => by simp [bitAt_shiftTowardLsb B _ _ hi, Bool.and_or_distrib_left]

theorem shiftTowardMsb_or (B : Endian) (u v : Byte) (k : Nat) :
    shiftTowardMsb B (u ||| v) k = shiftTowardMsb B u k ||| shiftTowardMsb B v k :=
  eq_of_bitAt_eq (B := B) fun i hi => by simp [bitAt_shiftTowardMsb B _ _ hi, Bool.and_or_distrib_left]

theorem shiftTowardLsb_shiftTowardLsb (B : Endian) (v : Byte) (j k : Nat) :
    shiftTowardLsb B (shiftTowardLsb B v j) k = shiftTowardLsb B v (k + j) := by
  refine eq_of_bitAt_eq (B := B) fun i hi => ?_
  have hle : k + j ≤ i ↔ k ≤ i ∧ j ≤ i - k := by omega
  rw [bitAt_shiftTowardLsb B _ k hi, bitAt_shiftTowardLsb B _ j (by omega), bitAt_shiftTowardLsb B _ _ hi, Nat.sub_sub]
  simp only [hle, Bool.decide_and, Bool.and_assoc]

/-- A shift by a whole byte loses every bit. -/
theorem shiftTowardLsb_of_ge (B : Endian) (v : Byte) {k : Nat} (hk : 8 ≤ k) : shiftTowardLsb B v k = 0 :=
  eq_of_bitAt_eq (B := B) fun i hi => by
    rw [bitAt_shiftTowardLsb B v k hi, bitAt_zero, decide_eq_false (by omega), Bool.false_and]

/-- Nothing of a field is left of the byte once it has been shifted out to the front. -/
theorem shiftTowardMsb_place_of_le (B : Endian) (f : Byte) {c k : Nat} (hk : c ≤ k) :
    shiftTowardMsb B (place B f c) k = 0 := by
  refine eq_of_bitAt_eq (B := B) fun i hi => ?_
  rw [bitAt_shiftTowardMsb B _ k hi, bitAt_zero, Bool.and_eq_false_imp]
  exact fun hin => bitAt_place_of_le B f (by omega) (of_decide_eq_true hin)

/-- A field shifted back and then farther to the front has gone to the front by the difference. -/
theorem shiftTowardMsb_shiftTowardLsb_place (B : Endian) (f : Byte) {c j k : Nat} (hfit : j + c ≤ 8) (hk : j ≤ k) :
    shiftTowardMsb B (shiftTowardLsb B (place B f c) j) k = shiftTowardMsb B (place B f c) (k - j) := by
  refine eq_of_bitAt_eq (B := B) fun i hi => ?_
  rw [bitAt_shiftTowardMsb B _ k hi, bitAt_shiftTowardMsb B _ (k - j) hi]
  by_cases hin : i + k < 8
  · rw [bitAt_shiftTowardLsb B _ j hin, show i + k - j = i + (k - j) by omega]
    simp [hin, show j ≤ i + k by omega, show i + (k - j) < 8 by omega]
  · by_cases hin' : i + (k - j) < 8
    · simp [hin, bitAt_place_of_le B f (show c ≤ i + (k - j) by omega) hin']
    · simp [hin, hin']

/-- A field shifted back and then less far to the front has gone back by the difference. -/
theorem shiftTowardMsb_shiftTowardLsb_place_of_ge (B : Endian) (f : Byte) {c j k : Nat} (hfit : j + c ≤ 8)
    (hk : k ≤ j) : shiftTowardMsb B (shiftTowardLsb B (place B f c) j) k = shiftTowardLsb B (place B f c) (j - k) := by
  refine eq_of_bitAt_eq (B := B) fun i hi => ?_
  rw [bitAt_shiftTowardMsb B _ k hi, bitAt_shiftTowardLsb B _ (j - k) hi]
  by_cases hin : i + k < 8
  · have hle : j ≤ i + k ↔ j - k ≤ i := by omega
    rw [bitAt_shiftTowardLsb B _ j hin, show i + k - j = i - (j - k) by omega]
    simp only [hin, hle, decide_true, Bool.true_and]
  · rw [decide_eq_false hin, bitAt_place_of_le B f (by omega) (by omega), Bool.and_false, Bool.false_and]

theorem bitAt_place_eq_getD (B : Endian) (f : Byte) {c i : Nat} (hc : c ≤ 8) (hi : i < 8) :
    bitAt B (place B f c) i = (fieldBits B f c).getD i false := by
  by_cases hic : i < c
  · rw [bitAt_place B f hc hic, List.getD_eq_getElem _ _ (by simpa using hic), getElem_fieldBits]
  · rw [bitAt_place_of_le B f (Nat.le_of_not_lt hic) hi, List.getD_eq_default _ _ (by simpa using hic)]

/-- A field laid into a byte is its first part with its second part behind it. -/
theorem place_append {B : Endian} {f g h : Byte} {m n : Nat} (hmn : m + n ≤ 8)
    (hbits : fieldBits B f (m + n) = fieldBits B g m ++ fieldBits B h n) :
    place B f (m + n) = place B g m ||| shiftTowardLsb B (place B h n) m := by
  refine eq_of_bitAt_eq (B := B) fun i hi => ?_
  rw [bitAt_place_eq_getD B f hmn hi, hbits, bitAt_or, bitAt_shiftTowardLsb B _ m hi,
    bitAt_place_eq_getD B h (by omega) (show i - m < 8 by omega)]
  by_cases him : i < m
  · rw [List.getD_append _ _ _ _ (by simpa using him), bitAt_place_eq_getD B g (by omega) hi]
    simp [show ¬ m ≤ i by omega]
  · rw [List.getD_append_right _ _ _ _ (by simpa using Nat.le_of_not_lt him), fieldBits_length,
      bitAt_place_of_le B g (Nat.le_of_not_lt him) hi]
    simp [show m ≤ i by omega]

/-- R115: the field of one bit, laid at an offset, is that bit at the offset's policy index. -/
theorem shiftTowardLsb_place_bitByte (B : Endian) (b : Bool) {o : Nat} (ho : o < 8) :
    shiftTowardLsb B (place B (bitByte b) 1) o = shl8 (bitByte b) (pos B o) := by
  have h : ∀ B b, ∀ o < 8, shiftTowardLsb B (place B (bitByte b) 1) o = shl8 (bitByte b) (pos B o) := by
    intro B b
    cases B <;> cases b <;> decide
  exact h B b o ho

theorem fieldBits_bitByte (B : Endian) (b : Bool) : fieldBits B (bitByte b) 1 = [b] := by
  cases B <;> cases b <;> rfl

/-! ## Depositing a field in two parts -/

theorem advance_advance (o : Offset) (m n : Nat) : advance (advance o m) n = advance o (m + n) :=
  BitVec.eq_of_toNat_eq (by simp only [advance_toNat]; omega)

/-- The sink takes the next byte offered to it, whichever it is. -/
def SnkPort.Takes (p : SnkPort) : Prop := ∀ b : Byte, p.answer [b] = some (.ack 1)

theorem SnkPort.takes_of_accept {p : SnkPort} {n : Nat} {ds : List SnkDraw} (h : p.draws = .accept (n + 1) :: ds) :
    p.Takes := fun b => by simp [SnkPort.answer, SnkPort.draw, h]

section
variable {B : Endian} {w : Writer}

/-- A field that completes the byte, which the sink takes. -/
theorem Writer.writeField_of_takes (htakes : w.port.Takes) (f : Byte) {c : Nat} (hfull : 8 ≤ w.off.toNat + c) :
    w.writeField B f c =
      ((w.setPort (w.port.after [w.buf ||| shiftTowardLsb B (place B f c) w.off.toNat] (.ack 1))).setCursor
        (advance w.off c) (shiftTowardMsb B (place B f c) (8 - w.off.toNat))).respond .okay := by
  rw [writeField_of_full B f hfull, sinkByte_of_ack (htakes _)]

/-- A field is accepted if the sink takes the byte that it may complete. -/
theorem Writer.writeField_accepted (f : Byte) {c : Nat} (htakes : 8 ≤ w.off.toNat + c → w.port.Takes) :
    ∃ v : Writer, w.writeField B f c = v.respond .okay ∧ v.attached = w.attached ∧ v.off = advance w.off c ∧
      (w.off.toNat + c < 8 → v.port = w.port) := by
  by_cases hfit : w.off.toNat + c < 8
  · exact ⟨_, writeField_of_partial B f hfit, rfl, rfl, fun _ => rfl⟩
  · have hfull : 8 ≤ w.off.toNat + c := Nat.le_of_not_lt hfit
    exact ⟨_, writeField_of_takes (htakes hfull) f hfull, rfl, rfl, fun h => absurd h hfit⟩

/-- A field of no bits changes nothing but the response. -/
theorem Writer.writeField_zero (f : Byte) : w.writeField B f 0 = w.respond .okay := by
  have hzero : shiftTowardLsb B 0 w.off.toNat = 0 :=
    eq_of_bitAt_eq (B := B) fun i hi => by
      rw [bitAt_shiftTowardLsb B _ _ hi, bitAt_zero, bitAt_zero, Bool.and_false]
  have hoff : advance w.off 0 = w.off := BitVec.eq_of_toNat_eq (Nat.mod_eq_of_lt w.off.isLt)
  rw [writeField_of_partial B f w.off.isLt, place_zero, hzero, hoff, BitVec.ofNat_eq_ofNat, BitVec.or_zero]
  rfl

/-- A field is written as its first part and then its second. -/
theorem Writer.writeField_append {f g h : Byte} {m n : Nat} (hmn : m + n ≤ 8)
    (hbits : fieldBits B f (m + n) = fieldBits B g m ++ fieldBits B h n)
    (htakes : 8 ≤ w.off.toNat + (m + n) → w.port.Takes) :
    w.writeField B f (m + n) = (w.writeField B g m).writeField B h n := by
  have ho := w.off.isLt
  have hcur : w.buf ||| shiftTowardLsb B (place B f (m + n)) w.off.toNat =
      w.buf ||| shiftTowardLsb B (place B g m) w.off.toNat ||| shiftTowardLsb B (place B h n) (w.off.toNat + m) := by
    rw [place_append hmn hbits, shiftTowardLsb_or, shiftTowardLsb_shiftTowardLsb, BitVec.or_assoc]
  have hrest (k : Nat) : shiftTowardMsb B (place B f (m + n)) k =
      shiftTowardMsb B (place B g m) k ||| shiftTowardMsb B (shiftTowardLsb B (place B h n) m) k := by
    rw [place_append hmn hbits, shiftTowardMsb_or]
  by_cases hfirst : w.off.toNat + m < 8
  · rw [writeField_of_partial B g hfirst]
    have hoff := advance_toNat_of_lt hfirst
    by_cases hfit : w.off.toNat + (m + n) < 8
    · rw [writeField_of_partial B f hfit, writeField_of_partial B h (by simp [hoff]; omega)]
      simp only [respond_off, respond_buf, setCursor_off, setCursor_buf, hoff, advance_advance, hcur]
      rfl
    · have hfull : 8 ≤ w.off.toNat + (m + n) := Nat.le_of_not_lt hfit
      have htail : shiftTowardMsb B (place B f (m + n)) (8 - w.off.toNat) =
          shiftTowardMsb B (place B h n) (8 - (w.off.toNat + m)) := by
        rw [hrest, shiftTowardMsb_place_of_le B g (by omega),
          shiftTowardMsb_shiftTowardLsb_place B h hmn (by omega), BitVec.ofNat_eq_ofNat, BitVec.zero_or, Nat.sub_sub]
      rw [writeField_of_takes (htakes hfull) f hfull, writeField_of_takes (w := Writer.respond _ _) ?_ h ?_]
      · simp only [respond_port, respond_off, respond_buf, setCursor_port, setCursor_off, setCursor_buf, hoff,
          advance_advance, hcur, htail]
        rfl
      · exact htakes hfull
      · simp [hoff]
        omega
  · have hfirst : 8 ≤ w.off.toNat + m := Nat.le_of_not_lt hfirst
    have hoff := advance_toNat_of_ge hfirst (by omega)
    have hcur' := hcur
    rw [shiftTowardLsb_of_ge B (place B h n) hfirst, BitVec.ofNat_eq_ofNat, BitVec.or_zero] at hcur'
    have htail : shiftTowardMsb B (place B f (m + n)) (8 - w.off.toNat) =
        shiftTowardMsb B (place B g m) (8 - w.off.toNat) |||
          shiftTowardLsb B (place B h n) (w.off.toNat + m - 8) := by
      rw [hrest, shiftTowardMsb_shiftTowardLsb_place_of_ge B h hmn (by omega),
        show m - (8 - w.off.toNat) = w.off.toNat + m - 8 by omega]
    rw [writeField_of_takes (htakes (by omega)) f (by omega), writeField_of_takes (htakes (by omega)) g hfirst,
      writeField_of_partial B h (by simp [hoff]; omega)]
    simp only [respond_off, respond_buf, setCursor_off, setCursor_buf, hoff, advance_advance, hcur', htail]
    rfl

end

/-! ## Writing a field bit by bit -/

/-- The command in whose name a byte is written shows only while the sink is silent. -/
theorem Writer.sinkByte_eq_or_waits (w : Writer) (i j : Instr) (b : Byte) (failed : IoCause → Status)
    (k : Writer → Writer) :
    w.sinkByte j b failed k = w.sinkByte i b failed k ∨
      (w.port.answer [b] = none ∧ ∃ v : Writer, w.sinkByte j b failed k = v.await (.command j) (.snkWrite [b])) := by
  cases h : w.port.answer [b] with
  | none => exact .inr ⟨rfl, w.setPort w.port.silent, by simp [sinkByte, snkWrite, h]⟩
  | some a => exact .inl (by rw [sinkByte, sinkByte, snkWrite_of_answer h, snkWrite_of_answer h])

/-- `W_WRITE_BIT` writes the field of its one bit, but for the command that is outstanding while the sink is silent. -/
theorem exec_wWriteBit {s : State} (att : s.writer.attached = true) (bit : Bool) :
    ∃ v : Writer, exec (.wWriteBit bit) s = .next (s.setWriter v) ∧
      (v = s.writer.writeField s.params.writerEndian (bitByte bit) 1 ∨
        (8 ≤ s.writer.off.toNat + 1 ∧ (∃ b, s.writer.port.answer [b] = none) ∧
          ∃ q, v.rsp = .waiting (.command (.wWriteBit bit)) q)) := by
  have ho := s.writer.off.isLt
  by_cases hlast : s.writer.off = 7
  · have hfull : 8 ≤ s.writer.off.toNat + 1 := by rw [hlast]; decide
    have hoff : advance s.writer.off 1 = 0 := by rw [hlast]; rfl
    rw [exec_wWriteBit_of_last att bit hlast, Writer.writeField_of_full _ _ hfull, hoff,
      shiftTowardMsb_place_of_le _ _ (by omega), shiftTowardLsb_place_bitByte _ _ ho]
    refine ⟨_, rfl, ?_⟩
    obtain e | ⟨hnone, v, e⟩ := s.writer.sinkByte_eq_or_waits (.wWriteBits (bitByte bit) 1) (.wWriteBit bit) _ _ _
    · exact .inl e
    · exact .inr ⟨hfull, ⟨_, hnone⟩, _, by rw [e]; rfl⟩
  · have hne : s.writer.off.toNat ≠ 7 := fun e => hlast (BitVec.eq_of_toNat_eq e)
    refine ⟨_, exec_wWriteBit_of_partial att bit hlast, .inl ?_⟩
    rw [Writer.writeField_of_partial _ _ (by omega), shiftTowardLsb_place_bitByte _ _ ho]

/-- `W_WRITE_BIT` of each of at most eight bits leaves what `W_WRITE_BITS` of their field leaves; without any bit, that is a
writer that has just answered `OK`. -/
theorem runCommands_wWriteBit {B : Endian} {bits : List Bool} (hlen : bits.length ≤ 8) {s : State}
    (hB : s.params.writerEndian = B) (att : s.writer.attached = true)
    (hrsp : bits ≠ [] ∨ s.writer.rsp = .response .okay) {f : Byte} (hf : fieldBits B f bits.length = bits)
    (htakes : 8 ≤ s.writer.off.toNat + bits.length → s.writer.port.Takes) :
    runCommands (bits.map .wWriteBit) s = some (s.setWriter (s.writer.writeField B f bits.length)) := by
  induction bits generalizing s f with
  | nil =>
    obtain h | h := hrsp
    · exact absurd rfl h
    · rw [List.length_nil, Writer.writeField_zero, Writer.respond, ← h]
      rfl
  | cons b bits ih =>
    rw [List.length_cons] at hlen hf htakes
    have hbits : fieldBits B f (1 + bits.length) =
        fieldBits B (bitByte b) 1 ++ fieldBits B (BitVec.ofNat 8 (assemble B bits)) bits.length := by
      rw [fieldBits_bitByte, fieldBits_assemble (by omega), Nat.add_comm, hf, List.singleton_append]
    obtain ⟨v, hv, hatt, hoff, hport⟩ := Writer.writeField_accepted (B := B) (w := s.writer) (bitByte b) (c := 1)
      fun hfull => htakes (by omega)
    have hexec : exec (.wWriteBit b) s = .next (s.setWriter (v.respond .okay)) := by
      obtain ⟨u, e, rfl | ⟨hfull, ⟨x, hnone⟩, -⟩⟩ := exec_wWriteBit att b
      · rw [e, hB, hv]
      · have hx := htakes (by omega) x
        rw [hnone] at hx
        cases hx
    have hrest := ih (s := s.setWriter (v.respond .okay)) (by omega) hB (hatt.trans att) (.inr rfl)
      (f := BitVec.ofNat 8 (assemble B bits)) (fieldBits_assemble (by omega)) fun hfull => ?_
    · rw [List.length_cons, Nat.add_comm, Writer.writeField_append (by omega) hbits (by rwa [Nat.add_comm 1]), hv,
        List.map_cons, runCommands, answered_eq_some.mpr ⟨hexec, rfl⟩]
      exact hrest
    · have hoff' : (v.respond .okay).off.toNat = (s.writer.off.toNat + 1) % 8 := congrArg BitVec.toNat hoff
      simp only [State.setWriter_writer, hoff'] at hfull
      have ho := s.writer.off.isLt
      show v.port.Takes
      rw [hport (by omega)]
      exact htakes (by omega)

/-- Settles O32: a field is written as its first bit and then the others (`Writer.writeField_append`). -/
theorem writeBitsIsWriteBitSequence : Obligations.WriteBitsIsWriteBitSequence := by
  intro s bits c n ds att hpos hc hdraws
  have htakes : s.writer.port.Takes := SnkPort.takes_of_accept hdraws
  refine ⟨_, exec_wWriteBits att bits hc, ?_, ?_⟩
  · obtain ⟨v, hv, -⟩ := Writer.writeField_accepted (B := s.params.writerEndian) (w := s.writer) bits (c := c)
      fun _ => htakes
    rw [hv]
    rfl
  · have hlen : (fieldBits s.params.writerEndian bits c).length = c := fieldBits_length _ _ _
    have hrun := runCommands_wWriteBit (bits := fieldBits s.params.writerEndian bits c) (hlen.trans_le hc) rfl att
      (.inl fun hnil => by simp [hnil] at hlen; omega) (by rw [hlen]) fun _ => htakes
    rwa [hlen] at hrun

end Sys2Proof.Machine
end

section
/-! SUPPORT. A byte-stream write is as many writes of eight bits (42_writer.md R182, R186). -/

namespace Sys2Proof.Machine

/-! ## The staging pass -/

theorem take_stageShifted (B : Endian) (o : Nat) (prev : Byte) (ds : List Byte) (m : Nat) :
    (stageShifted B o prev ds).take m = stageShifted B o prev (ds.take m) := by
  induction ds generalizing prev m with
  | nil => simp [stageShifted]
  | cons d ds ih =>
    cases m with
    | zero => rfl
    | succ m => rw [stageShifted, List.take_succ_cons, ih, List.take_succ_cons, stageShifted]

theorem wtail_zero (B : Endian) (d : Byte) : wtail B d 0 = 0 :=
  eq_of_bitAt_eq (B := B) fun i hi => by
    rw [wtail, bitAt_shiftTowardMsb B d _ hi, bitAt_zero, decide_eq_false (by omega), Bool.false_and]

theorem wcombine_zero (B : Endian) (d : Byte) : wcombine B 0 d 0 = d :=
  eq_of_bitAt_eq (B := B) fun i hi => by simp [wcombine, bitAt_shiftTowardLsb B d 0 hi]

/-- At offset 0 the staging pass changes nothing, so an aligned `W_WRITE` too offers what it makes. -/
theorem stageShifted_zero (B : Endian) (ds : List Byte) : stageShifted B 0 0 ds = ds := by
  induction ds with
  | nil => rfl
  | cons d ds ih => rw [stageShifted, wtail_zero, wcombine_zero, ih]

section
variable {B : Endian} {w : Writer} (hp : w.PendingOnly B)
include hp

/-- The first `m` bytes of the offer are the staging pass over the first `m` data bytes. -/
theorem Writer.PendingOnly.take_offered (mode : StagingMode) (d : List Byte) {m : Nat}
    (hm : m ≤ (w.offered mode B d).length) :
    (w.offered mode B d).take m = stageShifted B w.off.toNat w.buf (d.take m) := by
  by_cases ho : w.off = 0
  · rw [offered_of_aligned mode B ho, hp.buf_eq_zero ho, Offset.eq_zero_iff.mp ho, stageShifted_zero]
  · rw [offered_of_unaligned mode B ho] at hm ⊢
    have hmk : m ≤ stagedCount mode w.cap d.length := by
      rw [stageShifted_length] at hm
      exact hm.trans (List.length_take_le _ _)
    rw [take_stageShifted, List.take_take, Nat.min_eq_left hmk]

/-- What `W_WRITE` leaves pending is the tail of the last data byte taken, if there is one. -/
theorem Writer.PendingOnly.leftOver_eq {d : List Byte} {m : Nat} (hm : m ≤ d.length) :
    w.leftOver B d m = ((d.take m).map fun x => wtail B x w.off.toNat).getLastD w.buf := by
  cases m with
  | zero => exact if_pos (.inr rfl)
  | succ m =>
    rw [List.take_succ_eq_append_getElem hm, List.map_append, List.map_singleton, List.getLastD_concat]
    by_cases ho : w.off = 0
    · rw [leftOver, if_pos (.inl ho), hp.buf_eq_zero ho, Offset.eq_zero_iff.mp ho, wtail_zero]
    · rw [leftOver, if_neg (by simpa using ho), Nat.add_sub_cancel, List.getD_eq_getElem _ _ hm]

end

theorem SnkPort.le_of_ack {p : SnkPort} {xs : List Byte} {m : Nat} (h : p.answer xs = some (.ack m)) :
    m ≤ xs.length := by
  obtain ⟨n, hn, hle⟩ | ⟨v, hv, -⟩ := SnkPort.answer_cases h
  · cases hn
    exact hle
  · cases hv

theorem Writer.offered_length_le (mode : StagingMode) (B : Endian) (w : Writer) (d : List Byte) :
    (w.offered mode B d).length ≤ d.length := by
  unfold Writer.offered
  split
  · exact le_rfl
  · simp

/-- An offer of which the sink takes `m` bytes puts the staging pass over the first `m` data bytes into the sink and leaves
the tail of the last of them pending. -/
theorem Writer.PendingOnly.write_of_ack {B : Endian} {w : Writer} (hp : w.PendingOnly B) {mode : StagingMode} {len m : Nat}
    (h : w.port.answer (w.offered mode B (w.dataIn.take len)) = some (.ack m)) :
    m ≤ w.dataIn.length ∧
      (w.port.after (w.offered mode B (w.dataIn.take len)) (.ack m)).stream =
        w.port.stream ++ stageShifted B w.off.toNat w.buf (w.dataIn.take m) ∧
      w.leftOver B (w.dataIn.take len) m = ((w.dataIn.take m).map fun d => wtail B d w.off.toNat).getLastD w.buf := by
  have hm : m ≤ (w.offered mode B (w.dataIn.take len)).length := SnkPort.le_of_ack h
  have hmd : m ≤ (w.dataIn.take len).length := hm.trans (w.offered_length_le mode B _)
  have htake : (w.dataIn.take len).take m = w.dataIn.take m := by
    rw [List.take_take, Nat.min_eq_left (hmd.trans (List.length_take_le _ _))]
  exact ⟨hmd.trans (List.length_take_le' _ _), by rw [SnkPort.after_ack_stream, hp.take_offered mode _ hm, htake],
    by rw [hp.leftOver_eq hmd, htake]⟩

/-! ## Writes of eight bits -/

theorem place_eight (B : Endian) (d : Byte) : place B d 8 = d :=
  byteBits_injective B (by rw [byteBits_place B d le_rfl, fieldBits_eight, List.replicate_zero, List.append_nil])

/-- A write of eight bits that the sink takes is one step of the staging pass. -/
theorem Writer.writeField_eight {B : Endian} {w : Writer} (htakes : w.port.Takes) (d : Byte) :
    w.writeField B d 8 = ((w.setPort (w.port.after [wcombine B w.buf d w.off.toNat] (.ack 1))).setCursor w.off
      (wtail B d w.off.toNat)).respond .okay := by
  rw [writeField_of_takes htakes d (by omega), place_eight, advance_eight]
  rfl

/-- Writes of eight bits, each of them taken, put the staging pass into the sink. -/
theorem writeFields_eight {s : State} (att : s.writer.attached = true) {ds : List Byte}
    (hdraws : s.writer.port.draws = List.replicate ds.length (.accept 1)) :
    ∃ u, writeFields (ds.map fun d => (d, 8)) s = some u ∧
      u.writer.port.stream = s.writer.port.stream ++
        stageShifted s.params.writerEndian s.writer.off.toNat s.writer.buf ds ∧
      u.writer.off = s.writer.off ∧
      u.writer.buf = (ds.map fun d => wtail s.params.writerEndian d s.writer.off.toNat).getLastD s.writer.buf := by
  induction ds generalizing s with
  | nil => exact ⟨s, rfl, (List.append_nil _).symm, rfl, rfl⟩
  | cons d ds ih =>
    have hexec := exec_wWriteBits att d (c := 8) le_rfl
    rw [Writer.writeField_eight (SnkPort.takes_of_accept hdraws)] at hexec
    obtain ⟨u, hu, hstream, hoff, hbuf⟩ := ih (s := s.setWriter (((s.writer.setPort (s.writer.port.after
      [wcombine s.params.writerEndian s.writer.buf d s.writer.off.toNat] (.ack 1))).setCursor s.writer.off
        (wtail s.params.writerEndian d s.writer.off.toNat)).respond .okay)) att (by simp [hdraws])
    refine ⟨u, ?_, ?_, hoff, hbuf.trans List.getLastD_cons.symm⟩
    · rw [List.map_cons, writeFields, answered_eq_some.mpr ⟨hexec, rfl⟩]
      exact hu
    · rw [hstream]
      simp [stageShifted]

/-- Settles O40: `W_WRITE` puts the staging pass over the bytes taken into the sink, as writes of eight bits do one by one
(`writeFields_eight`). -/
theorem writeIsEightBitWrites : Obligations.WriteIsEightBitWrites := by
  intro s t len p att hp hlen e hrsp hok
  obtain ⟨-, e'⟩ | ⟨m, h, e'⟩ | ⟨v, -, e'⟩ := exec_wWrite_cases att hlen rfl <;>
    cases e'.symm.trans e <;> cases hrsp
  · obtain ⟨hm, hsent, hleft⟩ := hp.write_of_ack h
    obtain ⟨u, hu, hstream, hoff, hbuf⟩ := writeFields_eight (ds := s.writer.dataIn.take m)
      (s := s.setWriter (s.writer.setPort { s.writer.port with draws := List.replicate m (.accept 1) })) att
      (by rw [List.length_take_of_le hm]; rfl)
    exact ⟨u, hu, hstream.trans hsent.symm, hoff, hbuf.trans hleft.symm⟩
  · cases hok

end Sys2Proof.Machine
end

section
/-! SUPPORT. Every command keeps the writer's invariant that only pending bits are set (42_writer.md R185). -/

namespace Sys2Proof.Machine

namespace Writer.PendingOnly

section
variable {B : Endian} {w : Writer} (h : w.PendingOnly B)
include h

/-! ## Operations on the writer -/

theorem whenAttached {k : Writer} (hk : k.PendingOnly B) : (w.whenAttached k).PendingOnly B := by
  obtain ⟨-, e⟩ | ⟨-, e⟩ := w.whenAttached_cases k <;> rw [e]
  · exact hk
  · exact h

theorem snkWrite {i : Instr} {xs : List Byte} {k : SnkAnswer → Writer → Writer}
    (hk : ∀ a q, (k a (w.setPort q)).PendingOnly B) : (w.snkWrite i xs k).PendingOnly B := by
  obtain ⟨-, e⟩ | ⟨a, -, e⟩ := w.snkWrite_cases i xs k <;> rw [e]
  · exact h
  · exact hk a _

theorem requestFlush : w.requestFlush.PendingOnly B := by
  unfold Writer.requestFlush
  obtain ⟨-, e⟩ | ⟨a, -, e⟩ := w.snkFlush_cases .wFlush _ <;> rw [e]
  · exact h
  · cases a with
    | ok => exact h
    | err e => exact h

theorem sinkByte {i : Instr} {b : Byte} {failed : IoCause → Status} {k : Writer → Writer}
    (hk : ∀ q, (k (w.setPort q)).PendingOnly B) : (w.sinkByte i b failed k).PendingOnly B := by
  obtain ⟨-, e⟩ | ⟨-, e⟩ | ⟨-, e⟩ | ⟨_, -, e⟩ := w.sinkByte_cases i b failed k <;> rw [e]
  · exact h
  · exact hk _
  · exact h
  · exact h

theorem flushPartial {i : Instr} {failed : IoCause → Status} {k : Writer → Writer}
    (hk : ∀ v : Writer, v.PendingOnly B → (k v).PendingOnly B) : (w.flushPartial i failed k).PendingOnly B := by
  obtain ⟨-, e⟩ | ⟨-, e⟩ := w.flushPartial_cases i failed k <;> rw [e]
  · exact hk w h
  · exact h.sinkByte fun q => hk _ (.clear _ B)

theorem writeField (bits : Byte) {c : Nat} (hc : c ≤ 8) : (w.writeField B bits c).PendingOnly B := by
  by_cases hfit : w.off.toNat + c < 8
  · rw [writeField_of_partial B bits hfit]
    exact h.deposit_field bits hfit
  · have hfull : 8 ≤ w.off.toNat + c := Nat.le_of_not_lt hfit
    rw [writeField_of_full B bits hfull]
    exact h.sinkByte fun q => carry_field w B bits hc hfull

theorem leftOver (d : List Byte) (m : Nat) : (w.setCursor w.off (w.leftOver B d m)).PendingOnly B := by
  unfold Writer.leftOver
  split
  · exact h
  · exact tail w B _

theorem writeBytes (mode : StagingMode) (len : Nat) (d : List Byte) : (w.writeBytes mode B len d).PendingOnly B := by
  obtain ⟨-, e⟩ | ⟨m, -, e⟩ | ⟨_, -, e⟩ := w.writeBytes_cases mode B len d <;> rw [e]
  · exact h
  · exact h.leftOver d m
  · exact h

theorem takeData {j : Job} {len : Nat} {k : List Byte → Writer} (hk : ∀ d, (k d).PendingOnly B) :
    (w.takeData j len k).PendingOnly B := by
  obtain ⟨-, e⟩ | ⟨-, e⟩ := w.takeData_cases j len k <;> rw [e]
  · obtain ⟨-, e⟩ | ⟨-, e⟩ := (k (w.dataIn.take len)).dropFrame_cases len <;> rw [e]
    · exact hk _
    · exact hk _
  · exact h

end

end Writer.PendingOnly

/-! ## Commands -/

/-- Every writer command leaves a writer with only pending bits set. -/
theorem exec_pendingOnly {s : State} (h : s.writer.PendingOnly s.params.writerEndian) {i : Instr}
    (hi : i.engine = .writer) :
    ∃ w : Writer, w.PendingOnly s.params.writerEndian ∧ exec i s = .next (s.setWriter w) := by
  cases i with
  | wNew len =>
    refine ⟨_, ?_, exec_wNew len s⟩
    split
    · exact h
    · exact .clear s.writer _
  | wWriteBit bit =>
    refine ⟨_, h.whenAttached ?_, rfl⟩
    dsimp only
    split
    · exact h.sinkByte fun q => fun i _ _ => bitAt_zero _ i
    · rename_i ho
      exact h.deposit_bit bit ho
  | wWriteBits bits c =>
    refine ⟨_, h.whenAttached ?_, rfl⟩
    split
    · exact h
    · rename_i hc
      exact h.writeField bits (by simpa [countTooLarge] using hc)
  | wAlign | wIntoInner =>
    refine ⟨_, ?_, rfl⟩
    exact h.whenAttached (h.flushPartial fun v hv => hv)
  | wGetMut =>
    refine ⟨_, h.whenAttached ?_, rfl⟩
    split
    · exact h
    · exact h
  | wIsAligned | wGetRef | wGetMutUnchecked =>
    refine ⟨_, ?_, rfl⟩
    exact h.whenAttached h
  | wWrite len => exact ⟨_, h.takeData fun d => h.whenAttached (h.writeBytes _ len d), rfl⟩
  | wFlush => exact ⟨_, h.whenAttached (h.flushPartial fun v hv => hv.requestFlush), rfl⟩
  | wDrop =>
    refine ⟨_, ?_, rfl⟩
    dsimp only
    split
    · split
      · exact .clear s.writer _
      · exact h.snkWrite fun _ _ => .clear s.writer _
    · exact h
  | _ => cases hi

/-- Settles O57: a writer command leaves only pending bits set (`exec_pendingOnly`), and a reader command does not reach the
writer. -/
theorem commandsKeepPendingOnly : Obligations.CommandsKeepPendingOnly := by
  intro i s t h e
  cases hi : i.engine with
  | writer =>
    obtain ⟨w, hw, e'⟩ := exec_pendingOnly h hi
    cases e'.symm.trans e
    exact hw
  | reader =>
    obtain ⟨f, hf⟩ := exec_eq_onReader hi
    rw [hf, State.onReader_eq_next] at e
    subst e
    exact h

end Sys2Proof.Machine
end

section
/-! SUPPORT. The bits that a run of writer commands takes from the host are those in the sink and the pending ones, in order
(42_writer.md R190). -/

namespace Sys2Proof.Machine

/-! ## Bits put out before and after a write -/

/-- The writer attached to a sink that takes two bytes: the sink's answers do not matter to the bits put out, so that what is
known of writing to such a sink holds of every write. -/
def Writer.fed (w : Writer) : Writer :=
  (w.setAttached true).setPort { w.port with draws := List.replicate 2 (.accept 1) }

section
variable {B : Endian} {w : Writer} (h : w.PendingOnly B)
include h

theorem Writer.PendingOnly.fed_packing {c : Nat} (hc : c ≤ 8) :
    w.fed.Packing B (w.put B) (c + (16 - (w.off.toNat + c))) where
  attached := rfl
  pending := h
  put := rfl
  draws := by
    have ho := w.off.isLt
    exact ⟨2, rfl, show w.off.toNat + (c + (16 - (w.off.toNat + c))) = 8 * 2 by omega⟩

/-- A field that does not complete the byte is put out with the pending bits (R175). -/
theorem Writer.PendingOnly.put_of_partial (f : Byte) {c : Nat} (hfit : w.off.toNat + c < 8) :
    (w.setCursor (advance w.off c) (w.buf ||| shiftTowardLsb B (place B f c) w.off.toNat)).put B =
      w.put B ++ fieldBits B f c := by
  have hc : c ≤ 8 := by omega
  exact ((h.fed_packing hc).deposit f hc hfit).put

/-- A field that completes the byte is put out as that byte and the bits left pending (R175). -/
theorem Writer.PendingOnly.put_of_full (f : Byte) {c : Nat} (hc : c ≤ 8) (hfull : 8 ≤ w.off.toNat + c) :
    ((w.setPort (w.port.after [w.buf ||| shiftTowardLsb B (place B f c) w.off.toNat] (.ack 1))).setCursor
      (advance w.off c) (shiftTowardMsb B (place B f c) (8 - w.off.toNat))).put B = w.put B ++ fieldBits B f c := by
  obtain ⟨-, hpack⟩ := (h.fed_packing hc).complete f hc hfull
  exact hpack.put

/-- The buffer is the pending bits, filled up with zeros. -/
theorem Writer.PendingOnly.byteBits_buf (ho : w.off ≠ 0) :
    byteBits B w.buf = (byteBits B w.buf).take w.off.toNat ++ paddingBits w.off := by
  have hlt := w.off.isLt
  have htake : ((byteBits B w.buf).take w.off.toNat).length = w.off.toNat := by simp; omega
  rw [paddingBits, if_neg ho]
  refine List.ext_getElem (by simp; omega) fun i hi _ => ?_
  rw [List.getElem_append]
  by_cases hin : i < w.off.toNat
  · rw [dif_pos (htake.symm ▸ hin), List.getElem_take]
  · rw [dif_neg (htake.symm ▸ hin), List.getElem_replicate, getElem_byteBits, h i (Nat.le_of_not_lt hin) hi]

/-- The partial byte is put out as the pending bits and their padding (R172). -/
theorem Writer.PendingOnly.put_of_flush (ho : w.off ≠ 0) :
    ((w.setPort (w.port.after [w.buf] (.ack 1))).setCursor 0 0).put B = w.put B ++ paddingBits w.off := by
  have hbuf := h.byteBits_buf ho
  simp [put, ← hbuf]

/-- A byte through the bit cursor is put out as the byte staged and its tail (R182). -/
theorem Writer.PendingOnly.put_of_byte (d : Byte) :
    ((w.setPort (w.port.after [wcombine B w.buf d w.off.toNat] (.ack 1))).setCursor w.off
      (wtail B d w.off.toNat)).put B = w.put B ++ byteBits B d := by
  have hput := h.put_of_full d (c := 8) le_rfl (by omega)
  rwa [place_eight, advance_eight, fieldBits_eight] at hput

end

/-- Bytes through the bit cursor are put out as those staged and the tail of the last (R182). -/
theorem Writer.PendingOnly.put_of_write {B : Endian} {w : Writer} (h : w.PendingOnly B) (ds : List Byte) {q : SnkPort}
    (hq : q.stream = w.port.stream ++ stageShifted B w.off.toNat w.buf ds) :
    ((w.setPort q).setCursor w.off ((ds.map fun d => wtail B d w.off.toNat).getLastD w.buf)).put B =
      w.put B ++ streamBits B ds := by
  induction ds generalizing w with
  | nil => simp [put, hq, stageShifted]
  | cons d ds ih =>
    have hrest := ih (Writer.PendingOnly.tail (w.setPort (w.port.after [wcombine B w.buf d w.off.toNat] (.ack 1))) B d)
      (by simpa [stageShifted] using hq)
    rw [streamBits_cons, ← List.append_assoc, ← h.put_of_byte d, List.map_cons, List.getLastD_cons]
    exact hrest

/-! ## What one command puts out -/

/-- The writer's bits stand as they should: those of the buffer that are not pending are clear, and none is pending while it
is detached. -/
structure Writer.Kept (B : Endian) (w : Writer) : Prop where
  pending : w.PendingOnly B
  detached : w.attached = false → w.off = 0

theorem Writer.Kept.of_attached {B : Endian} {w : Writer} (hp : w.PendingOnly B) (att : w.attached = true) : w.Kept B :=
  ⟨hp, fun det => absurd (att.symm.trans det) (by decide)⟩

/-- From `w` to `t` the writer has put out `bits` behind those it had. -/
structure Writer.Puts (B : Endian) (bits : List Bool) (w t : Writer) : Prop where
  kept : t.Kept B
  sent : w.port.stream <+: t.port.stream
  put : t.put B = w.put B ++ bits

theorem Writer.Puts.refl {B : Endian} {w : Writer} (h : w.Kept B) : w.Puts B [] w :=
  ⟨h, List.prefix_rfl, (List.append_nil _).symm⟩

theorem Writer.Puts.trans {B : Endian} {bits bits' : List Bool} {w t u : Writer} (h : w.Puts B bits t)
    (h' : t.Puts B bits' u) : w.Puts B (bits ++ bits') u :=
  ⟨h'.kept, h.sent.trans h'.sent, by rw [h'.put, h.put, List.append_assoc]⟩

/-- If `t` has answered the command that `w` was given, with the response `p` it has put out `bits p`. -/
def Writer.Answers (B : Endian) (bits : Response → List Bool) (w t : Writer) : Prop :=
  ∀ p, t.rsp = .response p → w.Puts B (bits p) t

section
variable {B : Endian} {bits : Response → List Bool} {w : Writer}

theorem Writer.Answers.await (t : Writer) (j : Job) (q : Request) : w.Answers B bits (t.await j q) := by
  rintro _ ⟨⟩

theorem Writer.Answers.respond {t : Writer} {p : Response} (h : w.Puts B (bits p) t) :
    w.Answers B bits (t.respond p) := by
  rintro _ ⟨⟩
  exact ⟨⟨h.kept.pending, h.kept.detached⟩, h.sent, h.put⟩

/-- A response that no bits go with, with the cursor as it was and nothing sent. -/
theorem Writer.Answers.of_kept (h : w.Kept B) {p : Response} (hp : bits p = []) : w.Answers B bits (w.respond p) :=
  .respond (by rw [hp]; exact .refl h)

/-- A failed transfer, of which the sink has taken nothing. -/
theorem Writer.Answers.raise (h : w.Kept B) {q : SnkPort} (hq : q.stream = w.port.stream) {st : Status}
    (hp : bits (.failure st) = []) : w.Answers B bits ((w.setPort q).raise st) :=
  .respond ⟨⟨h.pending, h.detached⟩, by simp [hq], by simp [hp, put, hq]⟩

end

theorem takenBits_failure {st : Status} (hst : st ≠ .ok) (B : Endian) (i : Instr) (d : List Byte) :
    takenBits B i d (.failure st) = [] := by
  cases st with
  | ok => exact absurd rfl hst
  | _ => rfl

/-- `W_WRITE_BIT` and `W_WRITE_BITS` of one bit take the same by the same response. -/
theorem takenBits_wWriteBit (B : Endian) (bit : Bool) (d : List Byte) (p : Response) :
    takenBits B (.wWriteBit bit) d p = takenBits B (.wWriteBits (bitByte bit) 1) d p := by
  obtain ⟨st, -⟩ := p
  cases st with
  | ok => exact (fieldBits_bitByte B bit).symm
  | _ => rfl

section
variable {B : Endian} {w : Writer} (h : w.Kept B) (att : w.attached = true)
include h att

theorem Writer.writeField_answers (f : Byte) {c : Nat} (hc : c ≤ 8) (d : List Byte) :
    w.Answers B (takenBits B (.wWriteBits f c) d) (w.writeField B f c) := by
  by_cases hfit : w.off.toNat + c < 8
  · rw [writeField_of_partial B f hfit]
    exact .respond ⟨.of_attached (h.pending.deposit_field f hfit) att, List.prefix_rfl, h.pending.put_of_partial f hfit⟩
  · have hfull : 8 ≤ w.off.toNat + c := Nat.le_of_not_lt hfit
    rw [writeField_of_full B f hfull]
    obtain ⟨-, e⟩ | ⟨-, e⟩ | ⟨-, e⟩ | ⟨_, -, e⟩ := w.sinkByte_cases (.wWriteBits f c) _ .ioError _ <;> rw [e]
    · exact .await _ _ _
    · exact .respond ⟨.of_attached (.carry_field w B f hc hfull) att, List.prefix_append _ _,
        h.pending.put_of_full f hc hfull⟩
    · exact .raise h (List.append_nil _) rfl
    · exact .raise h (SnkPort.after_err_stream _ _ _) rfl

end

/-- A command that flushes the partial byte puts it out with its padding, if it then goes on to put out nothing more. -/
theorem Writer.flushPartial_answers {B : Endian} {w : Writer} (h : w.Kept B) {i : Instr} {failed : IoCause → Status}
    {k : Writer → Writer}
    (hk : ∀ v : Writer, v.Kept B → v.off = 0 → (k v).off = 0 ∧ v.Answers B (fun _ => []) (k v)) :
    w.Answers B (fun _ => if (w.flushPartial i failed k).off = 0 then paddingBits w.off else [])
      (w.flushPartial i failed k) := by
  by_cases ho : w.off = 0
  · obtain ⟨-, hans⟩ := hk w h ho
    have hpad : paddingBits w.off = [] := if_pos ho
    simpa only [flushPartial_of_aligned ho, hpad, ite_self] using hans
  · rw [flushPartial_of_unaligned ho]
    obtain ⟨-, e⟩ | ⟨-, e⟩ | ⟨-, e⟩ | ⟨_, -, e⟩ := w.sinkByte_cases i w.buf failed _ <;> rw [e]
    · exact .await _ _ _
    · obtain ⟨hoff, hans⟩ := hk ((w.setPort (w.port.after [w.buf] (.ack 1))).setCursor 0 0)
        ⟨.clear _ B, fun _ => rfl⟩ rfl
      rw [if_pos hoff]
      have hflush : w.Puts B (paddingBits w.off) ((w.setPort (w.port.after [w.buf] (.ack 1))).setCursor 0 0) :=
        ⟨⟨.clear _ B, fun _ => rfl⟩, List.prefix_append _ _, h.pending.put_of_flush ho⟩
      exact fun p hp => by simpa using hflush.trans (hans p hp)
    · exact .raise h (List.append_nil _) (if_neg ho)
    · exact .raise h (SnkPort.after_err_stream _ _ _) (if_neg ho)

/-- The flush request puts out nothing. -/
theorem Writer.requestFlush_answers {B : Endian} {w : Writer} (h : w.Kept B) : w.Answers B (fun _ => []) w.requestFlush := by
  unfold Writer.requestFlush
  obtain ⟨-, e⟩ | ⟨a, -, e⟩ := w.snkFlush_cases .wFlush _ <;> rw [e]
  · exact .await _ _ _
  · cases a with
    | ok => exact .respond ⟨⟨h.pending, h.detached⟩, List.prefix_rfl, (List.append_nil _).symm⟩
    | err e => exact .raise (bits := fun _ => []) h (w.port.afterFlush_stream _) rfl

/-- The writer `w` has put out what the command `i`, given in `s`, contributes by the response it has answered. -/
def State.Contributes (s : State) (i : Instr) (w : Writer) : Prop :=
  s.writer.Answers s.params.writerEndian (fun p => contributedBits i s p (s.setWriter w)) w

section
variable {s : State} (h : s.writer.Kept s.params.writerEndian)
include h

/-! ## Detached writers -/

/-- A refused command contributes nothing: there is no partial byte to pad. -/
theorem contributedBits_failure_of_detached (det : s.writer.attached = false) {st : Status} (hst : st ≠ .ok) (i : Instr)
    (t : State) : contributedBits i s (.failure st) t = [] := by
  have hpad : paddingBits s.writer.off = [] := if_pos (h.detached det)
  unfold contributedBits
  split
  · rw [hpad, ite_self]
  · rw [hpad, ite_self]
  · rw [hpad, ite_self]
  · exact takenBits_failure hst _ _ _

theorem exec_contributes_of_detached (det : s.writer.attached = false) {i : Instr} (hi : i.engine = .writer)
    (hdrop : i ≠ .wDrop) : ∃ w, exec i s = .next (s.setWriter w) ∧ s.Contributes i w := by
  have hrefused : s.Contributes i (s.writer.raise (.sequenceError .detached)) :=
    .of_kept h (contributedBits_failure_of_detached h det (st := .sequenceError .detached) nofun i _)
  have hcheck (k : Writer) : s.writer.whenAttached k = s.writer.raise (.sequenceError .detached) :=
    if_neg (by simp [det])
  cases i with
  | wNew len =>
    refine ⟨_, exec_wNew len s, ?_⟩
    rw [if_neg (by simp [det])]
    exact .respond ⟨.of_attached (.clear s.writer _) rfl, List.prefix_rfl, by
      simp [Writer.put, h.detached det, contributedBits, takenBits, Response.okay]⟩
  | wWrite len =>
    refine ⟨_, rfl, ?_⟩
    dsimp only
    obtain ⟨-, e⟩ | ⟨-, e⟩ := s.writer.takeData_cases (.command (.wWrite len)) len _ <;> rw [e]
    · rw [hcheck]
      rintro _ ⟨⟩
      exact ⟨⟨h.pending, h.detached⟩, List.prefix_rfl, (List.append_nil _).symm⟩
    · exact .await _ _ _
  | wDrop => exact absurd rfl hdrop
  | wWriteBit | wWriteBits | wIsAligned | wAlign | wGetRef | wGetMut | wGetMutUnchecked | wIntoInner | wFlush =>
    exact ⟨_, congrArg (fun w => Host.Outcome.next (s.setWriter w)) (hcheck _), hrefused⟩
  | _ => cases hi

/-! ## Attached writers -/

theorem exec_wWrite_contributes (att : s.writer.attached = true) (len : Nat) :
    ∃ w, exec (.wWrite len) s = .next (s.setWriter w) ∧ s.Contributes (.wWrite len) w := by
  by_cases hlen : len ≤ s.writer.dataIn.length
  · obtain ⟨-, e⟩ | ⟨m, hack, e⟩ | ⟨v, -, e⟩ := exec_wWrite_cases att hlen rfl
    · exact ⟨_, e, .await _ _ _⟩
    · obtain ⟨-, hsent, hleft⟩ := h.pending.write_of_ack hack
      have hput := h.pending.put_of_write _ hsent
      rw [← hleft] at hput
      exact ⟨_, e, .respond ⟨.of_attached (h.pending.leftOver _ m) att, List.prefix_append _ _, hput⟩⟩
    · exact ⟨_, e, .respond (p := .failure _)
        ⟨⟨h.pending, h.detached⟩, List.prefix_rfl, (List.append_nil _).symm⟩⟩
  · exact ⟨_, exec_wWrite_of_short (Nat.lt_of_not_le hlen), .await _ _ _⟩

theorem exec_contributes_of_attached (att : s.writer.attached = true) {i : Instr} (hi : i.engine = .writer)
    (hdrop : i ≠ .wDrop) : ∃ w, exec i s = .next (s.setWriter w) ∧ s.Contributes i w := by
  cases i with
  | wNew len =>
    rw [exec_wNew, if_pos att]
    exact ⟨_, rfl, .of_kept h rfl⟩
  | wWriteBit bit =>
    obtain ⟨v, e, rfl | ⟨-, -, q, hq⟩⟩ := exec_wWriteBit att bit
    · refine ⟨_, e, fun p hp => ?_⟩
      have hput := Writer.writeField_answers h att (bitByte bit) (c := 1) (by omega) s.writer.dataIn p hp
      rwa [← takenBits_wWriteBit] at hput
    · refine ⟨_, e, fun p hp => ?_⟩
      rw [hq] at hp
      cases hp
  | wWriteBits f c =>
    by_cases hc : c ≤ 8
    · exact ⟨_, exec_wWriteBits att f hc, Writer.writeField_answers h att f hc s.writer.dataIn⟩
    · exact ⟨_, exec_wWriteBits_of_gt att f (by omega), .of_kept h rfl⟩
  | wIsAligned => exact ⟨_, exec_wIsAligned att, .of_kept h rfl⟩
  | wAlign => exact ⟨_, exec_wAlign att, Writer.flushPartial_answers h fun v hv ho => ⟨ho, .of_kept hv rfl⟩⟩
  | wGetRef => exact ⟨_, exec_wGetRef att, .of_kept h rfl⟩
  | wGetMut =>
    refine ⟨_, exec_wGetMut att, ?_⟩
    split
    · exact .of_kept h rfl
    · exact .of_kept h rfl
  | wGetMutUnchecked => exact ⟨_, exec_wGetMutUnchecked att, .of_kept h rfl⟩
  | wIntoInner =>
    refine ⟨_, exec_wIntoInner att, Writer.flushPartial_answers h fun v hv ho => ⟨ho, .respond ?_⟩⟩
    exact ⟨⟨hv.pending, fun _ => ho⟩, List.prefix_rfl, (List.append_nil _).symm⟩
  | wWrite len => exact exec_wWrite_contributes h att len
  | wFlush =>
    refine ⟨_, exec_wFlush_of_attached att, Writer.flushPartial_answers h fun v hv ho => ⟨?_, ?_⟩⟩
    · rw [Writer.requestFlush_off, ho]
    · exact Writer.requestFlush_answers hv
  | wDrop => exact absurd rfl hdrop
  | _ => cases hi

/-- Every writer command but `W_DROP` puts out what it contributes. -/
theorem exec_contributes {i : Instr} (hi : i.engine = .writer) (hdrop : i ≠ .wDrop) :
    ∃ w, exec i s = .next (s.setWriter w) ∧ s.Contributes i w := by
  cases att : s.writer.attached with
  | false => exact exec_contributes_of_detached h att hi hdrop
  | true => exact exec_contributes_of_attached h att hi hdrop

end

/-! ## What a run puts out -/

theorem runTaking_cons_eq_some {i : Instr} {is : List Instr} {s t : State} {bits : List Bool}
    (h : runTaking (i :: is) s = some (bits, t)) : ∃ p u later, answered i s = some (p, u) ∧
      runTaking is u = some (later, t) ∧ bits = contributedBits i s p u ++ later := by
  obtain ⟨⟨p, u⟩, hans, hmap⟩ := Option.bind_eq_some_iff.mp h
  obtain ⟨⟨later, _⟩, hrun, heq⟩ := Option.map_eq_some_iff.mp hmap
  cases heq
  exact ⟨p, u, later, hans, hrun, rfl⟩

/-- A run without `W_DROP` puts out the bits it takes and pads. -/
theorem runTaking_puts {is : List Instr} (his : ∀ i ∈ is, i.engine = .writer ∧ i ≠ .wDrop) {s t : State}
    {bits : List Bool} (hs : s.writer.Kept s.params.writerEndian) (h : runTaking is s = some (bits, t)) :
    s.writer.Puts s.params.writerEndian bits t.writer := by
  induction is generalizing s bits with
  | nil =>
    cases h
    exact .refl hs
  | cons i is ih =>
    obtain ⟨⟨hi, hdrop⟩, his⟩ := List.forall_mem_cons.mp his
    obtain ⟨p, u, later, hans, hrun, rfl⟩ := runTaking_cons_eq_some h
    obtain ⟨e, hp⟩ := answered_eq_some.mp hans
    rw [hi] at hp
    obtain ⟨w, ew, hw⟩ := exec_contributes hs hi hdrop
    obtain rfl : s.setWriter w = u := Host.Outcome.next.inj (ew.symm.trans e)
    have hfirst := hw p hp
    exact hfirst.trans (ih his hfirst.kept hrun)

/-- What a writer without pending bits puts out is in the sink as far as it makes whole bytes, and pending beyond. -/
theorem Writer.Puts.whole_bytes {B : Endian} {bits : List Bool} {w t : Writer} (h : w.Puts B bits t) (ho : w.off = 0) :
    ∃ out : List Byte, t.port.stream = w.port.stream ++ out ∧ out.length = bits.length / 8 ∧
      t.off.toNat = bits.length % 8 ∧ streamBits B out = bits.take (8 * (bits.length / 8)) ∧
      (byteBits B t.buf).take t.off.toNat = bits.drop (8 * (bits.length / 8)) := by
  obtain ⟨out, hout⟩ := h.sent
  have hbits : streamBits B out ++ (byteBits B t.buf).take t.off.toNat = bits := by
    have hput := h.put
    simp only [Writer.put, ← hout, ho, streamBits_append, List.append_assoc] at hput
    exact List.append_cancel_left hput
  have hlt := t.off.isLt
  have hlen : bits.length = 8 * out.length + t.off.toNat := by
    rw [← hbits, List.length_append, streamBits_length, List.length_take_of_le (by simp; omega)]
  have hwhole : 8 * (bits.length / 8) = (streamBits B out).length := by
    rw [streamBits_length]
    omega
  refine ⟨out, hout.symm, by omega, by omega, ?_, ?_⟩
  · rw [hwhole, ← hbits, List.take_left]
  · rw [hwhole, ← hbits, List.drop_left]

/-- Settles O42: `W_NEW` leaves nothing pending and takes nothing, a run puts out what it takes and pads
(`runTaking_puts`), and that stands in the sink as far as it makes whole bytes. -/
theorem takenBitsAreTheSinkStream : Obligations.TakenBitsAreTheSinkStream := by
  intro s t len is bits det his h
  obtain ⟨p, u, later, hans, hrun, rfl⟩ := runTaking_cons_eq_some h
  obtain ⟨e, hp⟩ := answered_eq_some.mp hans
  rw [exec_wNew, if_neg (by simp [det])] at e
  cases e
  cases hp
  have hputs := runTaking_puts his (.of_attached (.clear s.writer _) rfl) hrun
  exact hputs.whole_bytes rfl

end Sys2Proof.Machine
end

section
/-! SUPPORT. The checks that refuse a command before it does anything (60_exceptions.md R223, R227, R228). -/

namespace Sys2Proof.Machine

/-- The attachment check (R227): `NEW` wants a detached engine, `DROP` any, and every other command an attached one. -/
def attachmentFault (attached : Bool) : Instr → Option SequenceCause
  | .rNew | .wNew _ => if attached then some .alreadyAttached else none
  | .rDrop | .wDrop => none
  | _ => if attached then none else some .detached

/-- The check of a command's own (R223): its count, or the offset of its engine. -/
def misuse (off : Offset) : Instr → Option ProgrammerCause
  | .rReadBits c | .wWriteBits _ c => if 8 < c then some .countGt8 else none
  | .rGetMut | .wGetMut => if off ≠ 0 then some .getMutUnaligned else none
  | _ => none

/-- The status with which the checks refuse a command, in their order (R228). -/
def refusal (attached : Bool) (off : Offset) (i : Instr) : Option Status :=
  ((attachmentFault attached i).map .sequenceError).or ((misuse off i).map .programmerError)

section
variable {attached : Bool} {off : Offset} {i : Instr}

theorem attachmentFault_eq_some {c : SequenceCause} : attachmentFault attached i = some c ↔
    (c = .alreadyAttached ∧ attached = true ∧ (i = .rNew ∨ ∃ len, i = .wNew len)) ∨
      (c = .detached ∧ attached = false ∧ i ≠ .rNew ∧ i ≠ .rDrop ∧ (∀ len, i ≠ .wNew len) ∧ i ≠ .wDrop) := by
  cases i with
  | rNew | wNew => simp [attachmentFault, and_comm, eq_comm]
  | rDrop | wDrop => simp [attachmentFault]
  | _ => simp [attachmentFault, and_comm, eq_comm]

theorem misuse_eq_some {c : ProgrammerCause} : misuse off i = some c ↔
    (c = .countGt8 ∧ ((∃ k, i = .rReadBits k ∧ 8 < k) ∨ ∃ b k, i = .wWriteBits b k ∧ 8 < k)) ∨
      (c = .getMutUnaligned ∧ ((i = .rGetMut ∧ off ≠ 0) ∨ (i = .wGetMut ∧ off ≠ 0))) := by
  cases i with
  | rReadBits | wWriteBits | rGetMut | wGetMut => simpa [misuse] using and_comm.trans (and_congr_left' eq_comm)
  | _ => simp [misuse]

/-- A command with a check of its own wants an attached engine. -/
theorem attachmentFault_of_misuse {c : ProgrammerCause} (h : misuse off i = some c) :
    attachmentFault attached i = none ↔ attached = true := by
  obtain ⟨-, ⟨k, rfl, -⟩ | ⟨b, k, rfl, -⟩⟩ | ⟨-, ⟨rfl, -⟩ | ⟨rfl, -⟩⟩ := misuse_eq_some.mp h <;> simp [attachmentFault]

theorem refusal_eq_sequenceError {c : SequenceCause} :
    refusal attached off i = some (.sequenceError c) ↔ attachmentFault attached i = some c := by
  simp [refusal, Option.or_eq_some_iff]

theorem refusal_eq_programmerError {c : ProgrammerCause} :
    refusal attached off i = some (.programmerError c) ↔ attached = true ∧ misuse off i = some c := by
  simp only [refusal, Option.or_eq_some_iff, Option.map_eq_some_iff, Option.map_eq_none_iff, reduceCtorEq, and_false,
    exists_false, false_or, Status.programmerError.injEq, exists_eq_right]
  exact and_congr_left attachmentFault_of_misuse

/-- The checks raise sequence errors and programmer errors, and nothing else. -/
theorem refusal_cases {st : Status} (h : refusal attached off i = some st) :
    (∃ c, st = .sequenceError c) ∨ ∃ c, st = .programmerError c := by
  obtain h | ⟨-, h⟩ := Option.or_eq_some_iff.mp h
  · obtain ⟨c, -, rfl⟩ := Option.map_eq_some_iff.mp h
    exact .inl ⟨c, rfl⟩
  · obtain ⟨c, -, rfl⟩ := Option.map_eq_some_iff.mp h
    exact .inr ⟨c, rfl⟩

/-- A detached engine refuses every command but `NEW` and `DROP`. -/
theorem refusal_of_detached (det : attached = false) (hr : i ≠ .rNew) (hrd : i ≠ .rDrop) (hw : ∀ len, i ≠ .wNew len)
    (hwd : i ≠ .wDrop) : refusal attached off i = some (.sequenceError .detached) :=
  refusal_eq_sequenceError.mpr (attachmentFault_eq_some.mpr (.inr ⟨rfl, det, hr, hrd, hw, hwd⟩))

/-- An attached engine lets every command but `NEW` through unless the command's own check finds a misuse. -/
theorem passed_of_attached (att : attached = true) (hr : i ≠ .rNew) (hw : ∀ len, i ≠ .wNew len)
    (h : misuse off i = none) : refusal attached off i = none := by
  have hatt : attachmentFault attached i = none := Option.eq_none_iff_forall_ne_some.mpr fun c hc => by
    obtain ⟨-, -, rfl | ⟨len, rfl⟩⟩ | ⟨-, det, -⟩ := attachmentFault_eq_some.mp hc
    · exact hr rfl
    · exact hw len rfl
    · cases att.symm.trans det
  rw [refusal, hatt, h]
  rfl

end

/-! ## Refusals before any transfer -/

/-- A refused reader command makes no request (20_memory.md R51). -/
theorem srcRequests_of_refusal {r : Reader} {i : Instr} {st : Status} (check : refusal r.attached r.off i = some st) :
    srcRequests r i = [] := by
  cases i with
  | rReadBit => exact if_neg fun h => by cases check.symm.trans (passed_of_attached h.1 nofun nofun rfl)
  | rReadBits c =>
    refine if_neg fun ⟨att, _, hc, _⟩ => ?_
    cases check.symm.trans (passed_of_attached att nofun nofun (if_neg (Nat.not_lt.mpr hc)))
  | rRead => exact if_neg fun att => by cases check.symm.trans (passed_of_attached att nofun nofun rfl)
  | _ => rfl

/-- A refused writer command makes no offer (20_memory.md R54). -/
theorem Writer.firstOffer_of_refusal {p : Params} {w : Writer} {i : Instr} {st : Status}
    (check : refusal w.attached w.off i = some st) : w.firstOffer p i = none := by
  cases i with
  | wWriteBit | wAlign | wIntoInner | wFlush =>
    exact if_neg fun h => by cases check.symm.trans (passed_of_attached h.1 nofun nofun rfl)
  | wWriteBits bits c =>
    refine if_neg fun ⟨att, hc, _⟩ => ?_
    cases check.symm.trans (passed_of_attached att nofun nofun (if_neg (Nat.not_lt.mpr hc)))
  | wWrite => exact if_neg fun att => by cases check.symm.trans (passed_of_attached att nofun nofun rfl)
  | wDrop => cases check
  | _ => rfl

/-- A detached reader refuses every command but `NEW` and `DROP` (R227). -/
theorem exec_reader_of_detached {i : Instr} (hi : i.engine = .reader) (hnew : i ≠ .rNew) (hdrop : i ≠ .rDrop)
    {s : State} (det : s.reader.attached = false) :
    exec i s = .next (s.setReader (s.reader.raise (.sequenceError .detached))) := by
  have hcheck (k : Reader) : s.reader.whenAttached k = s.reader.raise (.sequenceError .detached) :=
    if_neg (by simp [det])
  cases i with
  | rNew => exact absurd rfl hnew
  | rDrop => exact absurd rfl hdrop
  | rReadBit | rReadBits | rIsAligned | rAlign | rGetRef | rGetMut | rGetMutUnchecked | rIntoInner | rRead =>
    exact congrArg (fun r => Host.Outcome.next (s.setReader r)) (hcheck _)
  | _ => cases hi

/-- The writer once the data bytes framed behind a command's word have left the channel. -/
def Writer.unframed (w : Writer) (i : Instr) : Writer := w.setDataIn (w.dataIn.drop (Job.command i).frameLength)

/-- A detached writer refuses every command but `NEW` and `DROP` (R227), once its data bytes have come. -/
theorem exec_writer_of_detached {i : Instr} (hi : i.engine = .writer) (hnew : ∀ len, i ≠ .wNew len) (hdrop : i ≠ .wDrop)
    {s : State} (det : s.writer.attached = false) (frame : (Job.command i).frameLength ≤ s.writer.dataIn.length) :
    exec i s = .next (s.setWriter ((s.writer.unframed i).raise (.sequenceError .detached))) := by
  have hcheck (k : Writer) : s.writer.whenAttached k = s.writer.raise (.sequenceError .detached) :=
    if_neg (by simp [det])
  cases i with
  | wNew len => exact absurd rfl (hnew len)
  | wDrop => exact absurd rfl hdrop
  | wWrite len =>
    have htake : s.writer.takeData (.command (.wWrite len)) len (fun d => s.writer.whenAttached
        (s.writer.writeBytes s.params.stagingMode s.params.writerEndian len d)) =
          (s.writer.raise (.sequenceError .detached)).dropFrame len := by
      rw [Writer.takeData, if_pos (show len ≤ s.writer.dataIn.length from frame), hcheck]
    exact congrArg (fun w => Host.Outcome.next (s.setWriter w)) htake
  | wWriteBit | wWriteBits | wIsAligned | wAlign | wGetRef | wGetMut | wGetMutUnchecked | wIntoInner | wFlush =>
    exact congrArg (fun w => Host.Outcome.next (s.setWriter w)) (hcheck _)
  | _ => cases hi

/-- Settles O44: the attachment check comes before anything else, but that `W_WRITE` has its data bytes come first. -/
theorem detachedEngineRefuses : Obligations.DetachedEngineRefuses := by
  intro i s det
  refine ⟨fun hi hnew hdrop => ?_, fun hi hnew hne hdrop => ?_, ?_⟩
  · rw [hi] at det
    exact exec_reader_of_detached hi hnew hdrop det
  · rw [hi] at det
    rw [exec_writer_of_detached hi hnew hdrop det (by simp [Job.frameLength_command_of_ne hne]), Writer.unframed,
      Job.frameLength_command_of_ne hne]
    rfl
  · rintro len rfl hlen
    exact exec_writer_of_detached (i := .wWrite len) rfl nofun nofun det hlen

end Sys2Proof.Machine
end

section
/-! SUPPORT. Everything a reader command can do, case by case (41_reader.md R132 to R142). -/

namespace Sys2Proof.Machine

/-- The cause with which an answer fails the fetch of a byte (41_reader.md R131). -/
def SrcAnswer.failure : SrcAnswer → Option IoCause
  | .data [] => some .unexpectedEof
  | .data (_ :: _) => none
  | .err e => some (.portError e)

theorem SrcAnswer.failure_eq_portError {a : SrcAnswer} {e : ErrVal} :
    a.failure = some (.portError e) ↔ a = .err e := by
  match a with
  | .data [] => simp [failure]
  | .data (_ :: _) => simp [failure]
  | .err v => simp [failure]

/-- A failed fetch leaves the stream as it is. -/
theorem SrcPort.after_stream_of_failure {a : SrcAnswer} {c : IoCause} (h : a.failure = some c) (p : SrcPort)
    (len : Nat) : (p.after len a).stream = p.stream := by
  match a with
  | .data [] => rfl
  | .data (_ :: _) => cases h
  | .err e => rfl

/-- What the command `i` makes of the reader `r`: it is refused; or its one request has no answer, or fails it, or
ends it; or it makes no request. -/
inductive Reader.Run (r : Reader) (i : Instr) : Reader → Prop
  | refused {st : Status} (check : refusal r.attached r.off i = some st) : Run r i (r.raise st)
  | waits {len : Nat} (request : srcRequests r i = [len]) (silent : r.port.answer len = none) :
      Run r i ((r.setPort r.port.silent).await (.command i) (.srcRead len))
  | failed {len : Nat} {a : SrcAnswer} {c : IoCause} (request : srcRequests r i = [len])
      (answer : r.port.answer len = some a) (cause : a.failure = some c) :
      Run r i ((r.setPort (r.port.after len a)).raise (.ioError c))
  | fetched {len : Nat} {xs : List Byte} {v : Reader} {p : Response} (request : srcRequests r i = [len])
      (answer : r.port.answer len = some (.data xs)) (port : v.port = r.port.after len (.data xs))
      (ok : p.status = .ok) : Run r i (v.respond p)
  | quiet {v : Reader} {p : Response} (check : refusal r.attached r.off i = none) (request : srcRequests r i = [])
      (port : v.port = r.port) (ok : p.status = .ok) : Run r i (v.respond p)

/-- A command that fetches a byte. -/
theorem Reader.Run.fetchByte {r : Reader} {i : Instr} (request : srcRequests r i = [1]) {k : Byte → Reader → Reader}
    (hk : ∀ x, r.port.answer 1 = some (.data [x]) → r.Run i (k x (r.setPort (r.port.after 1 (.data [x]))))) :
    r.Run i (r.fetchByte i k) := by
  obtain ⟨h, e⟩ | ⟨x, h, e⟩ | ⟨h, e⟩ | ⟨v, h, e⟩ := r.fetchByte_cases i k <;> rw [e]
  · exact .waits request h
  · exact hk x h
  · exact .failed request h rfl
  · exact .failed request h rfl

theorem Reader.readField_run {r : Reader} (att : r.attached = true) (B : Endian) {c : Nat} (hc : c ≤ 8) :
    r.Run (.rReadBits c) (r.readField B c) := by
  have passed : refusal r.attached r.off (.rReadBits c) = none :=
    passed_of_attached att nofun nofun (if_neg (Nat.not_lt.mpr hc))
  obtain rfl | ⟨hpos, ho, hfit⟩ | ⟨hpos, hneed⟩ := r.readField_cases c
  · exact .quiet passed (by simp [srcRequests]) rfl rfl
  · have hnone : srcRequests r (.rReadBits c) = [] := if_neg fun ⟨_, _, _, h⟩ => by
      rw [Offset.eq_zero_iff] at h
      omega
    rw [Reader.readField_of_held B hpos ho hfit]
    exact .quiet passed hnone rfl rfl
  · rw [Reader.readField_of_fetch B hpos hneed]
    have request : srcRequests r (.rReadBits c) = [1] := if_pos ⟨att, hpos, hc, hneed⟩
    exact .fetchByte request fun x h => .fetched request h rfl rfl

theorem exec_readerRun_of_attached {s : State} (att : s.reader.attached = true) {i : Instr} (hi : i.engine = .reader) :
    ∃ r, s.reader.Run i r ∧ exec i s = .next (s.setReader r) := by
  cases i with
  | rNew =>
    refine ⟨_, ?_, exec_rNew s⟩
    rw [if_pos att]
    exact .refused (refusal_eq_sequenceError.mpr (if_pos att))
  | rReadBit =>
    by_cases ho : s.reader.off = 0
    · have request : srcRequests s.reader .rReadBit = [1] := if_pos ⟨att, ho⟩
      refine ⟨_, ?_, exec_rReadBit_of_aligned att ho⟩
      exact .fetchByte request fun x h => .fetched request h rfl rfl
    · refine ⟨_, ?_, exec_rReadBit_of_unaligned att ho⟩
      exact .quiet (passed_of_attached att nofun nofun rfl) (if_neg fun h => ho h.2) rfl rfl
  | rReadBits c =>
    by_cases hc : c ≤ 8
    · exact ⟨_, Reader.readField_run att _ hc, exec_rReadBits att hc⟩
    · have hgt : 8 < c := Nat.lt_of_not_le hc
      exact ⟨_, .refused (refusal_eq_programmerError.mpr ⟨att, if_pos hgt⟩), exec_rReadBits_of_gt att hgt⟩
  | rIsAligned =>
    refine ⟨_, ?_, exec_rIsAligned att⟩
    exact .quiet (passed_of_attached att nofun nofun rfl) rfl rfl rfl
  | rAlign =>
    refine ⟨_, ?_, exec_rAlign att⟩
    exact .quiet (passed_of_attached att nofun nofun rfl) rfl rfl rfl
  | rGetRef =>
    refine ⟨_, ?_, exec_rGetRef att⟩
    exact .quiet (passed_of_attached att nofun nofun rfl) rfl rfl rfl
  | rGetMut =>
    refine ⟨_, ?_, exec_rGetMut att⟩
    by_cases ho : s.reader.off = 0
    · rw [if_pos (Reader.aligned_eq_true.mpr ho)]
      exact .quiet (passed_of_attached att nofun nofun (if_neg (not_not.mpr ho))) rfl rfl rfl
    · rw [if_neg (mt Reader.aligned_eq_true.mp ho)]
      exact .refused (refusal_eq_programmerError.mpr ⟨att, if_pos ho⟩)
  | rGetMutUnchecked =>
    refine ⟨_, ?_, exec_rGetMutUnchecked att⟩
    exact .quiet (passed_of_attached att nofun nofun rfl) rfl rfl rfl
  | rIntoInner =>
    refine ⟨_, ?_, exec_rIntoInner att⟩
    exact .quiet (passed_of_attached att nofun nofun rfl) rfl rfl rfl
  | rRead len =>
    have request : srcRequests s.reader (.rRead len) = [len] := if_pos att
    match h : s.reader.port.answer len with
    | none => exact ⟨_, .waits request h, by simp [exec, execRRead, State.onReader_whenAttached att, Reader.srcRead, h]⟩
    | some (.data xs) =>
      refine ⟨_, ?_, exec_rRead_of_data att h⟩
      exact .fetched request h rfl rfl
    | some (.err e) => exact ⟨_, .failed request h rfl, exec_rRead_of_err att h⟩
  | rDrop =>
    refine ⟨_, ?_, exec_rDrop s⟩
    rw [if_pos att]
    exact .quiet rfl rfl rfl rfl
  | _ => cases hi

/-- Every reader command runs in one of these ways, whatever state it is given in. -/
theorem exec_readerRun {i : Instr} (hi : i.engine = .reader) (s : State) :
    ∃ r, s.reader.Run i r ∧ exec i s = .next (s.setReader r) := by
  cases att : s.reader.attached with
  | true => exact exec_readerRun_of_attached att hi
  | false =>
    cases i with
    | rNew =>
      refine ⟨_, ?_, exec_rNew s⟩
      rw [if_neg (by simp [att])]
      exact .quiet (by rw [att]; rfl) rfl rfl rfl
    | rDrop =>
      refine ⟨_, ?_, exec_rDrop s⟩
      rw [if_neg (by simp [att])]
      exact .quiet rfl rfl rfl rfl
    | rReadBit | rReadBits | rIsAligned | rAlign | rGetRef | rGetMut | rGetMutUnchecked | rIntoInner | rRead =>
      exact ⟨_, .refused (refusal_of_detached att nofun nofun nofun nofun), exec_reader_of_detached hi nofun nofun att⟩
    | _ => cases hi

theorem readerRun_of_exec {i : Instr} (hi : i.engine = .reader) {s t : State} (e : exec i s = .next t) :
    ∃ r, s.reader.Run i r ∧ t = s.setReader r := by
  obtain ⟨r, hr, e'⟩ := exec_readerRun hi s
  exact ⟨r, hr, Host.Outcome.next.inj (e.symm.trans e')⟩

end Sys2Proof.Machine
end

section
/-! SUPPORT. Everything a writer command can do, case by case (42_writer.md R173 to R184). -/

namespace Sys2Proof.Machine

/-! ## Answers that fail a transfer -/

/-- The cause with which an answer fails the write of a byte (42_writer.md R171). -/
def SnkAnswer.failure : SnkAnswer → Option IoCause
  | .ack 0 => some .writeZero
  | .ack (_ + 1) => none
  | .err e => some (.portError e)

theorem SnkAnswer.failure_eq_some {a : SnkAnswer} {c : IoCause} :
    a.failure = some c ↔ (c = .writeZero ∧ a = .ack 0) ∨ ∃ e, c = .portError e ∧ a = .err e := by
  match a with
  | .ack 0 => simp [failure, eq_comm]
  | .ack (_ + 1) => simp [failure]
  | .err v => simp [failure, eq_comm]

/-- Of a failed write the sink has taken nothing. -/
theorem SnkPort.after_stream_of_failure {a : SnkAnswer} {c : IoCause} (h : a.failure = some c) (p : SnkPort)
    (xs : List Byte) : (p.after xs a).stream = p.stream := by
  obtain ⟨-, rfl⟩ | ⟨e, -, rfl⟩ := SnkAnswer.failure_eq_some.mp h
  · exact List.append_nil _
  · rfl

/-! ## Runs -/

/-- The writer once the sink has taken its partial byte (R172). -/
def Writer.byteTaken (w : Writer) : Writer := (w.setPort (w.port.after [w.buf] (.ack 1))).setCursor 0 0

@[simp] theorem Writer.byteTaken_port (w : Writer) : w.byteTaken.port = w.port.after [w.buf] (.ack 1) := rfl

/-- The writer `w` once its partial byte, if there is one, is in the sink (R172). -/
inductive Writer.Flushed (w : Writer) : Writer → Prop
  | aligned (ho : w.off = 0) : Flushed w w
  | written (ho : w.off ≠ 0) (answer : w.port.answer [w.buf] = some (.ack 1)) : Flushed w w.byteTaken

/-- What the command `i` makes of the writer `w`: it waits for its data bytes; or it is refused; or its first offer has
no answer, or fails it, or ends it; or it makes no offer; or, being `W_FLUSH`, it goes on to its flush request. -/
inductive Writer.Run (p : Params) (w : Writer) (i : Instr) : Writer → Prop
  | short {len : Nat} (command : i = .wWrite len) (missing : w.dataIn.length < len) :
      Run p w i (w.await (.command i) (.dataIn len))
  | refused {st : Status} (check : refusal w.attached w.off i = some st) : Run p w i ((w.unframed i).raise st)
  | waits {xs : List Byte} (offer : w.firstOffer p i = some xs) (silent : w.port.answer xs = none) :
      Run p w i ((w.setPort w.port.silent).await (.command i) (.snkWrite xs))
  | failed {xs : List Byte} {a : SnkAnswer} {c : IoCause} (command : i ≠ .wDrop ∧ i ≠ .wIntoInner)
      (offer : w.firstOffer p i = some xs) (answer : w.port.answer xs = some a) (cause : a.failure = some c) :
      Run p w i (((w.setPort (w.port.after xs a)).unframed i).raise (.ioError c))
  | unwrapFailed {a : SnkAnswer} {c : IoCause} (command : i = .wIntoInner) (offer : w.firstOffer p i = some [w.buf])
      (answer : w.port.answer [w.buf] = some a) (cause : a.failure = some c) :
      Run p w i ((w.setPort (w.port.after [w.buf] a)).raise (.flushOnUnwrap c))
  | written {xs : List Byte} {a : SnkAnswer} {v : Writer} {q : Response} (command : i ≠ .wFlush)
      (offer : w.firstOffer p i = some xs) (answer : w.port.answer xs = some a) (taken : i = .wDrop ∨ ∃ m, a = .ack m)
      (port : v.port = w.port.after xs a) (ok : q.status = .ok) : Run p w i (v.respond q)
  | quiet {v : Writer} {q : Response} (command : i ≠ .wFlush) (check : refusal w.attached w.off i = none)
      (offer : w.firstOffer p i = none) (port : v.port = w.port) (ok : q.status = .ok) : Run p w i (v.respond q)
  | flushes {v : Writer} (command : i = .wFlush) (att : w.attached = true) (flushed : w.Flushed v) :
      Run p w i v.requestFlush

section
variable {p : Params} {w : Writer} {i : Instr}

theorem Writer.unframed_of_ne (h : ∀ len, i ≠ .wWrite len) (w : Writer) : w.unframed i = w := by
  rw [unframed, Job.frameLength_command_of_ne h]
  rfl

/-- A command that offers a byte. -/
theorem Writer.Run.sinkByte {b : Byte} (offer : w.firstOffer p i = some [b]) {failed : IoCause → Status}
    {k : Writer → Writer}
    (hfail : ∀ a c, w.port.answer [b] = some a → a.failure = some c →
      w.Run p i ((w.setPort (w.port.after [b] a)).raise (failed c)))
    (hk : w.port.answer [b] = some (.ack 1) → w.Run p i (k (w.setPort (w.port.after [b] (.ack 1))))) :
    w.Run p i (w.sinkByte i b failed k) := by
  obtain ⟨h, e⟩ | ⟨h, e⟩ | ⟨h, e⟩ | ⟨v, h, e⟩ := w.sinkByte_cases i b failed k <;> rw [e]
  · exact .waits offer h
  · exact hk h
  · exact hfail _ _ h rfl
  · exact hfail _ _ h rfl

/-- A command that flushes the partial byte first. -/
theorem Writer.Run.flushPartial (att : w.attached = true) (hoffer : w.firstOffer p i = w.partialOffer)
    {failed : IoCause → Status} {k : Writer → Writer}
    (hfail : ∀ a c, w.firstOffer p i = some [w.buf] → w.port.answer [w.buf] = some a → a.failure = some c →
      w.Run p i ((w.setPort (w.port.after [w.buf] a)).raise (failed c)))
    (hk : ∀ v, w.Flushed v → w.Run p i (k v)) : w.Run p i (w.flushPartial i failed k) := by
  by_cases ho : w.off = 0
  · rw [flushPartial_of_aligned ho]
    exact hk w (.aligned ho)
  · have offer : w.firstOffer p i = some [w.buf] := hoffer.trans (if_pos ⟨att, ho⟩)
    rw [flushPartial_of_unaligned ho]
    exact .sinkByte offer (hfail · · offer) fun h => hk _ (.written ho h)

/-- A command that answers `OK` as soon as the partial byte is flushed. -/
theorem Writer.Run.of_flushed {v u : Writer} {q : Response} (command : i ≠ .wFlush)
    (check : refusal w.attached w.off i = none) (att : w.attached = true) (hoffer : w.firstOffer p i = w.partialOffer)
    (h : w.Flushed v) (port : u.port = v.port) (ok : q.status = .ok) : w.Run p i (u.respond q) := by
  cases h with
  | aligned ho => exact .quiet command check (hoffer.trans (if_neg fun h => h.2 ho)) port ok
  | written ho answer => exact .written command (hoffer.trans (if_pos ⟨att, ho⟩)) answer (.inr ⟨1, rfl⟩) port ok

theorem Writer.writeField_run (att : w.attached = true) (bits : Byte) {c : Nat} (hc : c ≤ 8) :
    w.Run p (.wWriteBits bits c) (w.writeField p.writerEndian bits c) := by
  by_cases hfit : w.off.toNat + c < 8
  · rw [writeField_of_partial _ bits hfit]
    have passed : refusal w.attached w.off (.wWriteBits bits c) = none :=
      passed_of_attached att nofun nofun (if_neg (Nat.not_lt.mpr hc))
    exact .quiet nofun passed (if_neg fun h => Nat.not_le.mpr hfit h.2.2) rfl rfl
  · have hfull : 8 ≤ w.off.toNat + c := Nat.le_of_not_lt hfit
    rw [writeField_of_full _ bits hfull]
    have offer : w.firstOffer p (.wWriteBits bits c) =
        some [w.buf ||| shiftTowardLsb p.writerEndian (place p.writerEndian bits c) w.off.toNat] :=
      if_pos ⟨att, hc, hfull⟩
    exact .sinkByte offer (fun a c h cause => .failed ⟨nofun, nofun⟩ offer h cause) fun h =>
      .written nofun offer h (.inr ⟨1, rfl⟩) rfl rfl

end

theorem Writer.firstOffer_wWrite {w : Writer} (att : w.attached = true) (p : Params) (len : Nat) :
    w.firstOffer p (.wWrite len) = some (w.offered p.stagingMode p.writerEndian (w.dataIn.take len)) := by
  simp only [firstOffer, offered, if_pos att, aligned_eq_true]

theorem exec_wWriteBit_run {s : State} (att : s.writer.attached = true) (bit : Bool) :
    ∃ w, s.writer.Run s.params (.wWriteBit bit) w ∧ exec (.wWriteBit bit) s = .next (s.setWriter w) := by
  by_cases ho : s.writer.off = 7
  · have offer : s.writer.firstOffer s.params (.wWriteBit bit) =
        some [s.writer.buf ||| shl8 (bitByte bit) (pos s.params.writerEndian s.writer.off.toNat)] := by
      rw [show s.writer.off.toNat = 7 by rw [ho]; rfl]
      exact if_pos ⟨att, ho⟩
    refine ⟨_, .sinkByte offer (fun a c h cause => ?_) fun h => ?_, exec_wWriteBit_of_last att bit ho⟩
    · exact .failed ⟨nofun, nofun⟩ offer h cause
    · exact .written nofun offer h (.inr ⟨1, rfl⟩) rfl rfl
  · refine ⟨_, ?_, exec_wWriteBit_of_partial att bit ho⟩
    exact .quiet nofun (passed_of_attached att nofun nofun rfl) (if_neg fun h => ho h.2) rfl rfl

theorem exec_wWrite_run {s : State} (att : s.writer.attached = true) (len : Nat) :
    ∃ w, s.writer.Run s.params (.wWrite len) w ∧ exec (.wWrite len) s = .next (s.setWriter w) := by
  have offer := s.writer.firstOffer_wWrite att s.params len
  by_cases hlen : len ≤ s.writer.dataIn.length
  · obtain ⟨h, e⟩ | ⟨m, h, e⟩ | ⟨v, h, e⟩ := exec_wWrite_cases att hlen rfl <;> refine ⟨_, ?_, e⟩
    · exact .waits offer h
    · exact .written nofun offer h (.inr ⟨m, rfl⟩) rfl rfl
    · exact .failed ⟨nofun, nofun⟩ offer h rfl
  · have missing : s.writer.dataIn.length < len := Nat.lt_of_not_le hlen
    exact ⟨_, .short rfl missing, exec_wWrite_of_short missing⟩

theorem exec_wDrop_run {s : State} (att : s.writer.attached = true) :
    ∃ w, s.writer.Run s.params .wDrop w ∧ exec .wDrop s = .next (s.setWriter w) := by
  by_cases ho : s.writer.off = 0
  · refine ⟨_, ?_, exec_wDrop_of_aligned att ho⟩
    exact .quiet nofun rfl (if_neg fun h => h.2 ho) rfl rfl
  · have offer : s.writer.firstOffer s.params .wDrop = some [s.writer.buf] := if_pos ⟨att, ho⟩
    refine ⟨_, ?_, exec_wDrop_of_unaligned att ho⟩
    obtain ⟨h, e⟩ | ⟨a, h, e⟩ := s.writer.snkWrite_cases .wDrop [s.writer.buf] _ <;> rw [e]
    · exact .waits offer h
    · exact .written nofun offer h (.inl rfl) rfl rfl

theorem exec_writerRun_of_attached {s : State} (att : s.writer.attached = true) {i : Instr} (hi : i.engine = .writer) :
    ∃ w, s.writer.Run s.params i w ∧ exec i s = .next (s.setWriter w) := by
  cases i with
  | wNew len =>
    refine ⟨_, ?_, exec_wNew len s⟩
    rw [if_pos att]
    exact .refused (refusal_eq_sequenceError.mpr (if_pos att))
  | wWriteBit bit => exact exec_wWriteBit_run att bit
  | wWriteBits bits c =>
    by_cases hc : c ≤ 8
    · exact ⟨_, Writer.writeField_run att bits hc, exec_wWriteBits att bits hc⟩
    · have hgt : 8 < c := Nat.lt_of_not_le hc
      exact ⟨_, .refused (refusal_eq_programmerError.mpr ⟨att, if_pos hgt⟩), exec_wWriteBits_of_gt att bits hgt⟩
  | wIsAligned =>
    refine ⟨_, ?_, exec_wIsAligned att⟩
    exact .quiet nofun (passed_of_attached att nofun nofun rfl) rfl rfl rfl
  | wAlign =>
    refine ⟨_, .flushPartial att rfl (fun a c offer h cause => ?_) fun v hv => ?_, exec_wAlign att⟩
    · exact .failed ⟨nofun, nofun⟩ offer h cause
    · exact .of_flushed nofun (passed_of_attached att nofun nofun rfl) att rfl hv rfl rfl
  | wGetRef =>
    refine ⟨_, ?_, exec_wGetRef att⟩
    exact .quiet nofun (passed_of_attached att nofun nofun rfl) rfl rfl rfl
  | wGetMut =>
    refine ⟨_, ?_, exec_wGetMut att⟩
    by_cases ho : s.writer.off = 0
    · rw [if_pos (Writer.aligned_eq_true.mpr ho)]
      exact .quiet nofun (passed_of_attached att nofun nofun (if_neg (not_not.mpr ho))) rfl rfl rfl
    · rw [if_neg (mt Writer.aligned_eq_true.mp ho)]
      exact .refused (refusal_eq_programmerError.mpr ⟨att, if_pos ho⟩)
  | wGetMutUnchecked =>
    refine ⟨_, ?_, exec_wGetMutUnchecked att⟩
    exact .quiet nofun (passed_of_attached att nofun nofun rfl) rfl rfl rfl
  | wIntoInner =>
    refine ⟨_, .flushPartial att rfl (fun a c offer h cause => ?_) fun v hv => ?_, exec_wIntoInner att⟩
    · exact .unwrapFailed rfl offer h cause
    · exact .of_flushed nofun (passed_of_attached att nofun nofun rfl) att rfl hv rfl rfl
  | wWrite len => exact exec_wWrite_run att len
  | wFlush =>
    refine ⟨_, .flushPartial att rfl (fun a c offer h cause => ?_) fun v hv => ?_, exec_wFlush_of_attached att⟩
    · exact .failed ⟨nofun, nofun⟩ offer h cause
    · exact .flushes rfl att hv
  | wDrop => exact exec_wDrop_run att
  | _ => cases hi

/-- Every writer command runs in one of these ways, whatever state it is given in. -/
theorem exec_writerRun {i : Instr} (hi : i.engine = .writer) (s : State) :
    ∃ w, s.writer.Run s.params i w ∧ exec i s = .next (s.setWriter w) := by
  cases att : s.writer.attached with
  | true => exact exec_writerRun_of_attached att hi
  | false =>
    cases i with
    | wNew len =>
      refine ⟨_, ?_, exec_wNew len s⟩
      rw [if_neg (by simp [att])]
      exact .quiet nofun (by rw [att]; rfl) rfl rfl rfl
    | wDrop =>
      refine ⟨_, ?_, exec_wDrop_of_detached att⟩
      exact .quiet nofun rfl (if_neg (by simp [att])) rfl rfl
    | wWrite len =>
      by_cases hlen : len ≤ s.writer.dataIn.length
      · exact ⟨_, .refused (refusal_of_detached att nofun nofun nofun nofun),
          exec_writer_of_detached hi nofun nofun att hlen⟩
      · have missing : s.writer.dataIn.length < len := Nat.lt_of_not_le hlen
        exact ⟨_, .short rfl missing, exec_wWrite_of_short missing⟩
    | wWriteBit | wWriteBits | wIsAligned | wAlign | wGetRef | wGetMut | wGetMutUnchecked | wIntoInner | wFlush =>
      exact ⟨_, .refused (refusal_of_detached att nofun nofun nofun nofun),
        exec_writer_of_detached hi nofun nofun att (Nat.zero_le _)⟩
    | _ => cases hi

theorem writerRun_of_exec {i : Instr} (hi : i.engine = .writer) {s t : State} (e : exec i s = .next t) :
    ∃ w, s.writer.Run s.params i w ∧ t = s.setWriter w := by
  obtain ⟨w, hw, e'⟩ := exec_writerRun hi s
  exact ⟨w, hw, Host.Outcome.next.inj (e.symm.trans e')⟩

end Sys2Proof.Machine
end

section
/-! SUPPORT. The statuses that commands end with, and what they leave behind (60_exceptions.md R221 to R229). -/

namespace Sys2Proof.Machine

/-! ## Statuses -/

/-- The status of a reader's last response, if its last command has been answered. -/
def Reader.status (r : Reader) : Option Status := r.rsp.given.map Response.status

/-- The status of a writer's last response, if its last command has been answered. -/
def Writer.status (w : Writer) : Option Status := w.rsp.given.map Response.status

@[simp] theorem Reader.respond_status (r : Reader) (p : Response) : (r.respond p).status = some p.status := rfl
@[simp] theorem Reader.raise_status (r : Reader) (st : Status) : (r.raise st).status = some st := rfl
@[simp] theorem Reader.await_status (r : Reader) (j : Job) (q : Request) : (r.await j q).status = none := rfl
@[simp] theorem State.setReader_status (s : State) (r : Reader) : (s.setReader r).status .reader = r.status := rfl
@[simp] theorem State.setWriter_status (s : State) (w : Writer) : (s.setWriter w).status .writer = w.status := rfl
@[simp] theorem Writer.respond_status (w : Writer) (p : Response) : (w.respond p).status = some p.status := rfl
@[simp] theorem Writer.raise_status (w : Writer) (st : Status) : (w.raise st).status = some st := rfl
@[simp] theorem Writer.await_status (w : Writer) (j : Job) (q : Request) : (w.await j q).status = none := rfl

/-- The writer waits for the answer to its flush request. -/
def Writer.awaitFlush (w : Writer) : Writer := (w.setPort w.port.silent).await (.command .wFlush) .snkFlush

@[simp] theorem Writer.awaitFlush_port (w : Writer) : w.awaitFlush.port = w.port.silent := rfl
@[simp] theorem Writer.awaitFlush_status (w : Writer) : w.awaitFlush.status = none := rfl

/-- The flush request of `W_FLUSH` has no answer, or is granted, or fails with the port's error (R183). -/
theorem Writer.requestFlush_cases (w : Writer) :
    (w.port.flushAnswer = none ∧ w.requestFlush = w.awaitFlush) ∨
      (w.port.flushAnswer = some .ok ∧ w.requestFlush = (w.setPort (w.port.afterFlush .ok)).respond .okay) ∨
      (∃ e, w.port.flushAnswer = some (.err e) ∧
        w.requestFlush = (w.setPort (w.port.afterFlush (.err e))).raise (.ioError (.portError e))) := by
  unfold requestFlush
  obtain ⟨h, e⟩ | ⟨a, h, e⟩ := w.snkFlush_cases .wFlush _ <;> rw [e]
  · exact .inl ⟨h, rfl⟩
  · cases a with
    | ok => exact .inr (.inl ⟨h, rfl⟩)
    | err v => exact .inr (.inr ⟨v, h, rfl⟩)

/-- A status that a command ends with once the checks have let it through. -/
def Status.Passed : Status → Prop
  | .ok | .ioError _ | .flushOnUnwrap _ => True
  | _ => False

/-- A refused reader command ends with the status of the refusal, and any other with one that no check raises. -/
theorem Reader.Run.status_eq {r v : Reader} {i : Instr} (h : r.Run i v) {st : Status} (hv : v.status = some st) :
    refusal r.attached r.off i = some st ∨ (refusal r.attached r.off i = none ∧ st.Passed) := by
  have passed {len : Nat} (request : srcRequests r i = [len]) : refusal r.attached r.off i = none :=
    Option.eq_none_iff_forall_ne_some.mpr fun st h => by simp [srcRequests_of_refusal h] at request
  cases h with
  | refused check =>
    cases hv
    exact .inl check
  | waits => cases hv
  | failed request =>
    cases hv
    exact .inr ⟨passed request, trivial⟩
  | fetched request _ _ ok =>
    cases hv
    exact .inr ⟨passed request, ok ▸ trivial⟩
  | quiet check _ _ ok =>
    cases hv
    exact .inr ⟨check, ok ▸ trivial⟩

/-- A refused writer command ends with the status of the refusal, and any other with one that no check raises. -/
theorem Writer.Run.status_eq {p : Params} {w v : Writer} {i : Instr} (h : w.Run p i v) {st : Status}
    (hv : v.status = some st) :
    refusal w.attached w.off i = some st ∨ (refusal w.attached w.off i = none ∧ st.Passed) := by
  have passed {xs : List Byte} (offer : w.firstOffer p i = some xs) : refusal w.attached w.off i = none :=
    Option.eq_none_iff_forall_ne_some.mpr fun st h => by simp [firstOffer_of_refusal h] at offer
  cases h with
  | short => cases hv
  | refused check =>
    cases hv
    exact .inl check
  | waits => cases hv
  | failed _ offer =>
    cases hv
    exact .inr ⟨passed offer, trivial⟩
  | unwrapFailed _ offer =>
    cases hv
    exact .inr ⟨passed offer, trivial⟩
  | written _ offer _ _ _ ok =>
    cases hv
    exact .inr ⟨passed offer, ok ▸ trivial⟩
  | quiet _ check _ _ ok =>
    cases hv
    exact .inr ⟨check, ok ▸ trivial⟩
  | flushes command att =>
    subst command
    refine .inr ⟨passed_of_attached att nofun nofun rfl, ?_⟩
    obtain ⟨-, e⟩ | ⟨-, e⟩ | ⟨_, -, e⟩ := Writer.requestFlush_cases _ <;> rw [e] at hv <;> cases hv
    · trivial
    · trivial

/-- The offset of an engine. -/
def State.off (s : State) : Engine → Offset
  | .reader => s.reader.off
  | .writer => s.writer.off

/-- A command that has been answered ends with the status of its refusal, or with one that no check raises. -/
theorem exec_status {i : Instr} {s t : State} (e : exec i s = .next t) {st : Status} (h : t.status i.engine = some st) :
    refusal (s.attached i.engine) (s.off i.engine) i = some st ∨
      (refusal (s.attached i.engine) (s.off i.engine) i = none ∧ st.Passed) := by
  cases hi : i.engine with
  | reader =>
    rw [hi] at h
    obtain ⟨r, hr, rfl⟩ := readerRun_of_exec hi e
    exact hr.status_eq h
  | writer =>
    rw [hi] at h
    obtain ⟨w, hw, rfl⟩ := writerRun_of_exec hi e
    exact hw.status_eq h

/-- A status that only the checks raise ends a command exactly if they refuse it so. -/
theorem exec_status_eq_iff {i : Instr} {s t : State} (e : exec i s = .next t) {st st' : Status}
    (h : t.status i.engine = some st) (hst : ¬ st'.Passed) :
    st = st' ↔ refusal (s.attached i.engine) (s.off i.engine) i = some st' := by
  obtain hr | ⟨hr, hp⟩ := exec_status e h <;> rw [hr]
  · exact Option.some_inj.symm
  · exact iff_of_false (fun heq => hst (heq ▸ hp)) nofun

/-- Settles O45: only the attachment check raises a sequence error. -/
theorem sequenceErrorExactly : Obligations.SequenceErrorExactly := by
  intro i s t p c e h
  have hst : t.status i.engine = some p.status := by rw [State.status, h]; rfl
  rw [exec_status_eq_iff e hst id, refusal_eq_sequenceError, attachmentFault_eq_some]

end Sys2Proof.Machine
end

section
/-! SUPPORT. What a refused or failed command leaves behind (60_exceptions.md R221 to R229). -/

namespace Sys2Proof.Machine

/-! ## Refused commands (R223) -/

/-- No check raises a status that a command ends with once it has been let through. -/
theorem not_passed_of_refusal {attached : Bool} {off : Offset} {i : Instr} {st : Status}
    (check : refusal attached off i = some st) : ¬ st.Passed := by
  obtain ⟨c, rfl⟩ | ⟨c, rfl⟩ := refusal_cases check
  · exact id
  · exact id

theorem Reader.Run.eq_of_refusal {r v : Reader} {i : Instr} (h : r.Run i v) {st : Status}
    (check : refusal r.attached r.off i = some st) : v = r.raise st := by
  have hnone := srcRequests_of_refusal check
  cases h with
  | refused check' =>
    cases check.symm.trans check'
    rfl
  | waits request => cases hnone.symm.trans request
  | failed request => cases hnone.symm.trans request
  | fetched request => cases hnone.symm.trans request
  | quiet check' => cases check.symm.trans check'

theorem Writer.Run.eq_of_refusal {p : Params} {w v : Writer} {i : Instr} (h : w.Run p i v) {st : Status}
    (check : refusal w.attached w.off i = some st) (hne : ∀ len, i ≠ .wWrite len) : v = w.raise st := by
  have hnone : w.firstOffer p i = none := firstOffer_of_refusal check
  cases h with
  | short command => exact absurd command (hne _)
  | refused check' =>
    cases check.symm.trans check'
    rw [unframed_of_ne hne]
  | waits offer => cases hnone.symm.trans offer
  | failed _ offer => cases hnone.symm.trans offer
  | unwrapFailed _ offer => cases hnone.symm.trans offer
  | written _ offer => cases hnone.symm.trans offer
  | quiet _ check' => cases check.symm.trans check'
  | flushes command att =>
    subst command
    cases check.symm.trans (passed_of_attached att nofun nofun rfl)

theorem exec_status_of_refusal {i : Instr} {s t : State} (e : exec i s = .next t) {st : Status}
    (check : refusal (s.attached i.engine) (s.off i.engine) i = some st) (hne : ∀ len, i ≠ .wWrite len) :
    t.status i.engine = some st := by
  cases hi : i.engine with
  | reader =>
    rw [hi] at check
    obtain ⟨r, hr, rfl⟩ := readerRun_of_exec hi e
    rw [hr.eq_of_refusal check]
    rfl
  | writer =>
    rw [hi] at check
    obtain ⟨w, hw, rfl⟩ := writerRun_of_exec hi e
    rw [hw.eq_of_refusal check hne]
    rfl

/-- The four cases of R223, with the offset of the command's own engine. -/
theorem misuse_off_eq_some {i : Instr} {s : State} {c : ProgrammerCause} : misuse (s.off i.engine) i = some c ↔
    (c = .countGt8 ∧ ((∃ k, i = .rReadBits k ∧ 8 < k) ∨ ∃ b k, i = .wWriteBits b k ∧ 8 < k)) ∨
      (c = .getMutUnaligned ∧ ((i = .rGetMut ∧ s.reader.off ≠ 0) ∨ (i = .wGetMut ∧ s.writer.off ≠ 0))) := by
  have hr : i = .rGetMut ∧ s.off i.engine ≠ 0 ↔ i = .rGetMut ∧ s.reader.off ≠ 0 :=
    and_congr_right fun h => by rw [h]; rfl
  have hw : i = .wGetMut ∧ s.off i.engine ≠ 0 ↔ i = .wGetMut ∧ s.writer.off ≠ 0 :=
    and_congr_right fun h => by rw [h]; rfl
  rw [misuse_eq_some, hr, hw]

/-- Settles O46: only a command's own check raises a programmer error, and it does so without a wait. -/
theorem programmerErrorExactly : Obligations.ProgrammerErrorExactly := by
  intro i s t c e
  rw [← misuse_off_eq_some, ← refusal_eq_programmerError]
  refine ⟨fun h => (exec_status_eq_iff e h id).mp rfl, fun check => exec_status_of_refusal e check ?_⟩
  rintro len rfl
  cases (refusal_eq_programmerError.mp check).2

/-! ## `FLUSH_ON_UNWRAP` (R225) -/

theorem Reader.Run.status_ne_flushOnUnwrap {r v : Reader} {i : Instr} (h : r.Run i v) (c : IoCause) :
    v.status ≠ some (.flushOnUnwrap c) := by
  cases h with
  | refused check =>
    rintro ⟨⟩
    exact not_passed_of_refusal check trivial
  | waits | failed => simp
  | fetched _ _ _ ok => simp [ok]
  | quiet _ _ _ ok => simp [ok]

theorem Writer.requestFlush_status_ne_flushOnUnwrap (w : Writer) (c : IoCause) :
    w.requestFlush.status ≠ some (.flushOnUnwrap c) := by
  obtain ⟨-, e⟩ | ⟨-, e⟩ | ⟨_, -, e⟩ := w.requestFlush_cases <;> simp [e, Response.okay]

theorem Writer.Run.unwrap_of_status {p : Params} {w v : Writer} {i : Instr} (h : w.Run p i v) {c : IoCause}
    (hv : v.status = some (.flushOnUnwrap c)) : i = .wIntoInner ∧ w.firstOffer p i = some [w.buf] ∧
      ∃ a : SnkAnswer, a.failure = some c ∧ v = (w.setPort (w.port.after [w.buf] a)).raise (.flushOnUnwrap c) := by
  cases h with
  | refused check =>
    cases hv
    exact absurd trivial (not_passed_of_refusal check)
  | unwrapFailed command offer _ cause =>
    cases hv
    exact ⟨command, offer, _, cause, rfl⟩
  | short | waits | failed => cases hv
  | written _ _ _ _ _ ok => simp [ok] at hv
  | quiet _ _ _ _ ok => simp [ok] at hv
  | flushes => exact absurd hv (requestFlush_status_ne_flushOnUnwrap _ c)

theorem Writer.partialOffer_eq_some {w : Writer} {xs : List Byte} :
    w.partialOffer = some xs ↔ (w.attached = true ∧ w.off ≠ 0) ∧ [w.buf] = xs := by
  simp [partialOffer]

/-- Settles O47: of all runs only that of `W_INTO_INNER` whose write failed ends so. -/
theorem flushOnUnwrapOnlyFromIntoInner : Obligations.FlushOnUnwrapOnlyFromIntoInner := by
  intro i s t c e h
  cases hi : i.engine with
  | reader =>
    rw [hi] at h
    obtain ⟨r, hr, rfl⟩ := readerRun_of_exec hi e
    exact absurd h (hr.status_ne_flushOnUnwrap c)
  | writer =>
    rw [hi] at h
    obtain ⟨w, hw, rfl⟩ := writerRun_of_exec hi e
    obtain ⟨rfl, offer, a, cause, rfl⟩ := hw.unwrap_of_status h
    obtain ⟨⟨att, ho⟩, -⟩ := Writer.partialOffer_eq_some.mp offer
    refine ⟨rfl, att, ho, ?_, att, rfl, rfl⟩
    obtain ⟨rfl, rfl⟩ | ⟨v, rfl, rfl⟩ := SnkAnswer.failure_eq_some.mp cause
    · exact .inl ⟨rfl, rfl⟩
    · exact .inr ⟨v, rfl, rfl⟩

/-! ## Failed commands (R229) -/

theorem Reader.Run.kept_of_failed {r v : Reader} {i : Instr} (h : r.Run i v) {st : Status} (hv : v.status = some st)
    (hst : st ≠ .ok) :
    v.attached = r.attached ∧ v.off = r.off ∧ v.buf = r.buf ∧ v.port.stream = r.port.stream := by
  cases h with
  | refused => exact ⟨rfl, rfl, rfl, rfl⟩
  | waits => cases hv
  | failed _ _ cause => exact ⟨rfl, rfl, rfl, SrcPort.after_stream_of_failure cause _ _⟩
  | fetched _ _ _ ok =>
    cases hv
    exact absurd ok hst
  | quiet _ _ _ ok =>
    cases hv
    exact absurd ok hst

/-- The writer `v` has the registers of `w`, and nothing has gone to the sink. -/
def Writer.SameAs (w v : Writer) : Prop :=
  v.attached = w.attached ∧ v.cap = w.cap ∧ v.off = w.off ∧ v.buf = w.buf ∧ v.port.stream = w.port.stream

/-- The writer `v` is `w` after a `W_FLUSH` whose byte write was done and whose flush failed. -/
def Writer.FlushFailed (w v : Writer) : Prop :=
  v.attached = w.attached ∧ v.cap = w.cap ∧ w.off ≠ 0 ∧ v.off = 0 ∧ v.buf = 0 ∧
    v.port.stream = w.port.stream ++ [w.buf] ∧ ∃ e, v.port.log.getLast? = some (.flush (.err e))

theorem Writer.Flushed.kept_of_failed {w u : Writer} (h : w.Flushed u) {st : Status}
    (hv : u.requestFlush.status = some st) (hst : st ≠ .ok) :
    w.SameAs u.requestFlush ∨ w.FlushFailed u.requestFlush := by
  obtain ⟨-, e⟩ | ⟨-, e⟩ | ⟨v, -, e⟩ := u.requestFlush_cases <;> rw [e] at hv ⊢ <;> cases hv
  · exact absurd rfl hst
  · cases h with
    | aligned => exact .inl ⟨rfl, rfl, rfl, rfl, rfl⟩
    | written ho => exact .inr ⟨rfl, rfl, ho, rfl, rfl, rfl, v, by simp⟩

theorem Writer.Run.kept_of_failed {p : Params} {w v : Writer} {i : Instr} (h : w.Run p i v) {st : Status}
    (hv : v.status = some st) (hst : st ≠ .ok) : i ≠ .wDrop ∧ (w.SameAs v ∨ (i = .wFlush ∧ w.FlushFailed v)) := by
  cases h with
  | short | waits => cases hv
  | refused check =>
    refine ⟨?_, .inl ⟨rfl, rfl, rfl, rfl, rfl⟩⟩
    rintro rfl
    cases check
  | failed command _ _ cause =>
    exact ⟨command.1, .inl ⟨rfl, rfl, rfl, rfl, SnkPort.after_stream_of_failure cause _ _⟩⟩
  | unwrapFailed command _ _ cause =>
    subst command
    exact ⟨nofun, .inl ⟨rfl, rfl, rfl, rfl, SnkPort.after_stream_of_failure cause _ _⟩⟩
  | written _ _ _ _ _ ok =>
    cases hv
    exact absurd ok hst
  | quiet _ _ _ _ ok =>
    cases hv
    exact absurd ok hst
  | flushes command _ flushed =>
    subst command
    exact ⟨nofun, (flushed.kept_of_failed hv hst).imp_right fun h => ⟨rfl, h⟩⟩

/-- Settles O48: no failed run but that of `W_FLUSH` after its byte write changes a register or moves a byte. -/
theorem failedCommandChangesNothing : Obligations.FailedCommandChangesNothing := by
  intro i s t st e h hst
  cases hi : i.engine with
  | reader =>
    rw [hi] at h
    obtain ⟨r, hr, rfl⟩ := readerRun_of_exec hi e
    obtain ⟨ha, ho, hb, hs⟩ := hr.kept_of_failed h hst
    exact ⟨fun _ => ⟨ha, ho, hb, hs, rfl⟩, nofun⟩
  | writer =>
    rw [hi] at h
    obtain ⟨w, hw, rfl⟩ := writerRun_of_exec hi e
    refine ⟨nofun, fun _ => ?_⟩
    obtain ⟨hdrop, ⟨ha, hc, ho, hb, hs⟩ | ⟨rfl, ha, hc, hflush⟩⟩ := hw.kept_of_failed h hst
    · exact ⟨hdrop, rfl, ha, hc, .inl ⟨ho, hb, hs⟩⟩
    · exact ⟨hdrop, rfl, ha, hc, .inr ⟨rfl, hflush⟩⟩

/-! ## Port errors (R221) -/

theorem refusal_ne_portError {attached : Bool} {off : Offset} {i : Instr} {st : Status}
    (check : refusal attached off i = some st) (e : ErrVal) : st ≠ .ioError (.portError e) := by
  rintro rfl
  exact not_passed_of_refusal check trivial

theorem SrcAnswer.portError_iff {a : SrcAnswer} {c : IoCause} (cause : a.failure = some c) {e : ErrVal} :
    c = .portError e ↔ a = .err e := by
  rw [← Option.some_inj, ← cause]
  exact failure_eq_portError

theorem SnkAnswer.portError_iff {a : SnkAnswer} {c : IoCause} (cause : a.failure = some c) {e : ErrVal} :
    c = .portError e ↔ a = .err e := by
  obtain ⟨rfl, rfl⟩ | ⟨v, rfl, rfl⟩ := SnkAnswer.failure_eq_some.mp cause <;> simp

theorem Reader.Run.portError_iff {r v : Reader} {i : Instr} (h : r.Run i v) (e : ErrVal) :
    v.status = some (.ioError (.portError e)) ↔
      v.port.log ≠ r.port.log ∧ ∃ len, v.port.log.getLast? = some ⟨len, .err e⟩ := by
  cases h with
  | refused check => simp [refusal_ne_portError check e]
  | waits => simp
  | failed _ _ cause => simp [SrcAnswer.portError_iff cause]
  | fetched _ _ port ok => simp [port, ok]
  | quiet _ _ port ok => simp [port, ok]

theorem Writer.Flushed.portError_iff {w u : Writer} (h : w.Flushed u) (e : ErrVal) :
    u.requestFlush.status = some (.ioError (.portError e)) ↔ u.requestFlush.port.log ≠ w.port.log ∧
      ((∃ xs, u.requestFlush.port.log.getLast? = some (.write xs (.err e))) ∨
        u.requestFlush.port.log.getLast? = some (.flush (.err e))) := by
  obtain ⟨-, heq⟩ | ⟨-, heq⟩ | ⟨v, -, heq⟩ := u.requestFlush_cases <;> rw [heq]
  · cases h <;> simp
  · cases h <;> simp [Response.okay]
  · cases h <;> simp

theorem Writer.Run.portError_iff {p : Params} {w v : Writer} {i : Instr} (h : w.Run p i v) (e : ErrVal) :
    v.status = some (.ioError (.portError e)) ↔ i ≠ .wDrop ∧ i ≠ .wIntoInner ∧ v.port.log ≠ w.port.log ∧
      ((∃ xs, v.port.log.getLast? = some (.write xs (.err e))) ∨ v.port.log.getLast? = some (.flush (.err e))) := by
  cases h with
  | short | waits => simp
  | refused check => simp [refusal_ne_portError check e, Writer.unframed]
  | failed command _ _ cause => simp [command, Writer.unframed, SnkAnswer.portError_iff cause]
  | unwrapFailed command => simp [command]
  | written _ _ _ taken port ok => 
    obtain rfl | ⟨m, rfl⟩ := taken
    · simp [ok]
    · simp [ok, port]
  | quiet _ _ _ port ok => simp [port, ok]
  | flushes command _ flushed => 
    subst command
    simp [flushed.portError_iff]

/-- Settles O49: the last transaction of a run fails with a port's error exactly if the run ends with it. -/
theorem portErrorsPassThrough : Obligations.PortErrorsPassThrough := by
  intro i s t v e
  cases hi : i.engine with
  | reader =>
    obtain ⟨r, hr, rfl⟩ := readerRun_of_exec hi e
    simpa using hr.portError_iff v
  | writer =>
    obtain ⟨w, hw, rfl⟩ := writerRun_of_exec hi e
    simpa using hw.portError_iff v

end Sys2Proof.Machine
end

section
/-! SUPPORT. Each engine alone (60_exceptions.md R240), and illegal words (R226). -/

namespace Sys2Proof.Machine

/-! ## Isolation -/

/-- Settles O53: a command is an operation on its own engine. -/
theorem enginesShareNothing : Obligations.EnginesShareNothing := by
  intro i s t e
  cases hi : i.engine with
  | reader =>
    obtain ⟨f, hf⟩ := exec_eq_onReader hi
    rw [hf, State.onReader_eq_next] at e
    subst e
    exact ⟨rfl, rfl, rfl, fun _ => ⟨rfl, fun w => hf _⟩, nofun⟩
  | writer =>
    obtain ⟨f, hf⟩ := exec_eq_onWriter hi
    rw [hf, State.onWriter_eq_next] at e
    subst e
    exact ⟨rfl, rfl, rfl, nofun, fun _ => ⟨rfl, fun r => hf _⟩⟩

/-! ## Illegal words -/

/-- The framing of R88 in the terms of R226. -/
theorem frameLength_eq (w : Word) :
    frameLength w = if w.extractLsb' 0 5 = 0x1A#5 then (w >>> 16).toNat else 0 := by
  have hop : opField w = 0xA ↔ w.extractLsb' 0 4 = 0xA#4 := BitVec.toNat_inj (y := 0xA#4)
  have hlow : w.extractLsb' 0 5 = w.extractLsb' 4 1 ++ w.extractLsb' 0 4 :=
    (BitVec.extractLsb'_append_extractLsb'_eq_extractLsb' (x := w) (len₂ := 1) (show 4 = 0 + 4 from rfl)).symm
  have hframed : unitField w = .writer ∧ opField w = 0xA ↔ w.extractLsb' 0 5 = 0x1A#5 := by
    rw [unitField_eq_iff, hop, ← append_eq_append_iff, ← hlow]
    rfl
  have hlen : lenField w = (w >>> 16).toNat := by
    have hw := w.isLt
    simp only [lenField, BitVec.extractLsb'_toNat, BitVec.toNat_ushiftRight, Nat.shiftRight_eq_div_pow]
    omega
  unfold frameLength
  rw [hlen]
  exact if_congr hframed rfl rfl

/-- An illegal word's frame that is there as a whole is taken and discarded (R88). -/
theorem rejectFrame_of_frame {len : Nat} {s : State} (frame : len ≤ s.writer.dataIn.length) :
    rejectFrame len s =
      .next (s.setWriter ((s.writer.raise .illegalCommand).setDataIn (s.writer.dataIn.drop len))) := by
  rw [rejectFrame, State.onWriter, Writer.takeData, if_pos frame]
  rfl

/-- Settles O15: an illegal word reaches nothing but the response port, once its frame has been taken. -/
theorem illegalWordRefused : Obligations.IllegalWordRefused := by
  refine ⟨fun s w rest e hhost idle illegal => ?_, fun s w data rest e hhost idle illegal hlen empty => ?_⟩
  · have hidle : (!(s.setHost rest).reader.rsp.isWaiting) = true := by simp [idle]
    rw [step_of_host hhost, perform, hidle, whenMove, if_pos rfl, acceptReaderWord, illegal]
    rfl
  · rw [← frameLength_eq] at hlen
    have hjob : writerJob w = .illegal data.length := by rw [writerJob, illegal, hlen]
    have hdata : ((s.setHost rest).sendData data).writer.dataIn = data := by simp [empty]
    have hw : s.writer.setDataIn [] = s.writer := by
      rw [← empty]
      rfl
    rw [step_of_host hhost, perform_writerCommand (s := s.setHost rest) idle hlen.le, hjob, runJob,
      rejectFrame_of_frame (by rw [hdata]), hdata, List.drop_length]
    exact congrArg (fun v => Host.Outcome.next ((s.setHost rest).setWriter (v.raise .illegalCommand))) hw

end Sys2Proof.Machine
end

section
/-! SUPPORT. When a command waits (60_exceptions.md R236, R243), and what a late answer makes of it. -/

namespace Sys2Proof.Machine

/-! ## Waiting -/

theorem Writer.requestFlush_of_silent {w : Writer} (silent : w.port.flushAnswer = none) :
    w.requestFlush = w.awaitFlush := by
  obtain ⟨-, e⟩ | ⟨h, -⟩ | ⟨_, h, -⟩ := w.requestFlush_cases
  · exact e
  · cases silent.symm.trans h
  · cases silent.symm.trans h

theorem Writer.requestFlush_answered {w : Writer} (answer : w.port.flushAnswer ≠ none) :
    w.requestFlush.rsp.isWaiting = false := by
  obtain ⟨h, -⟩ | ⟨-, e⟩ | ⟨_, -, e⟩ := w.requestFlush_cases
  · exact absurd h answer
  · rw [e]
    rfl
  · rw [e]
    rfl

section
variable {p : Params} {w v : Writer} {i : Instr} (h : w.Run p i v)
  (frame : ∀ len, i = .wWrite len → len ≤ w.dataIn.length)
include h frame

/-- A command waits for the answer to its first offer. -/
theorem Writer.Run.eq_of_silent {xs : List Byte} (offer : w.firstOffer p i = some xs)
    (silent : w.port.answer xs = none) :
    v = (w.setPort w.port.silent).await (.command i) (.snkWrite xs) := by
  have unanswered {ys : List Byte} {a : SnkAnswer} (offer' : w.firstOffer p i = some ys) :
      w.port.answer ys ≠ some a := by
    cases offer.symm.trans offer'
    simp [silent]
  cases h with
  | short command missing => exact absurd (frame _ command) (Nat.not_le.mpr missing)
  | refused check => cases offer.symm.trans (firstOffer_of_refusal check)
  | waits offer' =>
    cases offer.symm.trans offer'
    rfl
  | failed _ offer' answer => exact absurd answer (unanswered offer')
  | unwrapFailed _ offer' answer => exact absurd answer (unanswered offer')
  | written _ offer' answer => exact absurd answer (unanswered offer')
  | quiet _ _ none => cases offer.symm.trans none
  | flushes command _ flushed =>
    subst command
    obtain ⟨⟨-, ho⟩, hxs⟩ := partialOffer_eq_some.mp offer
    cases flushed with
    | aligned hal => exact absurd hal ho
    | written _ answer => exact absurd (hxs ▸ answer) (by simp [silent])

/-- A command whose first offer is answered, if it makes one, is answered itself. -/
theorem Writer.Run.answered (command : i ≠ .wFlush)
    (answer : ∀ xs, w.firstOffer p i = some xs → w.port.answer xs ≠ none) : v.rsp.isWaiting = false := by
  cases h with
  | short command missing => exact absurd (frame _ command) (Nat.not_le.mpr missing)
  | waits offer silent => exact absurd silent (answer _ offer)
  | flushes command' => exact absurd command' command
  | refused | failed | unwrapFailed | written | quiet => rfl

end

/-- `W_FLUSH` of a partial byte that the sink has answered goes on to its flush request, or is answered itself. -/
theorem Writer.flush_of_answer {w : Writer} (ho : w.off ≠ 0) {a : SnkAnswer} (answer : w.port.answer [w.buf] = some a) :
    let v := w.flushPartial .wFlush .ioError Writer.requestFlush
    (a = .ack 1 ∧ v = w.byteTaken.requestFlush) ∨ (a ≠ .ack 1 ∧ v.rsp.isWaiting = false) := by
  dsimp only
  rw [flushPartial_of_unaligned ho]
  obtain ⟨h, -⟩ | ⟨h, e⟩ | ⟨h, e⟩ | ⟨v, h, e⟩ := w.sinkByte_cases .wFlush w.buf .ioError
    (fun w' => (w'.setCursor 0 0).requestFlush) <;> cases answer.symm.trans h <;> rw [e]
  · exact .inl ⟨rfl, rfl⟩
  · exact .inr ⟨nofun, rfl⟩
  · exact .inr ⟨nofun, rfl⟩

/-- Settles O50: a run waits exactly for its request or for its data bytes, and `W_FLUSH` for its flush request too. -/
theorem commandsWaitExactlyForInput : Obligations.CommandsWaitExactlyForInput := by
  intro i s
  cases hi : i.engine with
  | reader =>
    obtain ⟨r, hr, e⟩ := exec_readerRun hi s
    refine ⟨_, e, fun _ => ?_, nofun⟩
    cases hr with
    | refused check => simp [srcRequests_of_refusal check]
    | waits request silent =>
      simp only [request, silent]
      rfl
    | failed request answer => simp [request, answer]
    | fetched request answer => simp [request, answer]
    | quiet _ request => simp [request]
  | writer =>
    obtain ⟨w, hw, e⟩ := exec_writerRun hi s
    refine ⟨_, e, nofun, fun _ => ⟨?_, fun frame => ?_, ?_, ?_, ?_⟩⟩
    · rintro len rfl missing
      exact Host.Outcome.next.inj (e.symm.trans (exec_wWrite_of_short missing))
    · split
      · rename_i xs offer
        refine ⟨fun silent => ?_, fun answer command => ?_⟩
        · rw [hw.eq_of_silent frame offer silent]
          rfl
        · refine hw.answered frame command fun ys offer' => ?_
          cases offer.symm.trans offer'
          exact answer
      · rename_i none
        exact fun command => hw.answered frame command fun ys offer => by cases none.symm.trans offer
    · rintro rfl det
      rw [hw.eq_of_refusal (refusal_of_detached det nofun nofun nofun nofun) nofun]
      rfl
    · rintro rfl att ho
      rw [exec_wFlush_of_attached att, Writer.flushPartial_of_aligned ho] at e
      rw [← Host.Outcome.next.inj e]
      split
      · rename_i silent
        rw [Writer.requestFlush_of_silent silent]
        rfl
      · rename_i answer
        exact Writer.requestFlush_answered answer
    · rintro rfl att ho a answer
      rw [exec_wFlush_of_attached att] at e
      rw [← Host.Outcome.next.inj e]
      obtain ⟨rfl, hv⟩ | ⟨hne, hv⟩ := Writer.flush_of_answer ho answer
      · rw [hv]
        dsimp only
        split
        · rename_i silent
          rw [Writer.requestFlush_of_silent silent.2]
          rfl
        · rename_i answer'
          exact Writer.requestFlush_answered fun silent => answer' ⟨rfl, silent⟩
      · dsimp only
        rw [if_neg fun h => hne h.1]
        exact hv

/-! ## Late answers -/

/-- A reader command does not look at the response port: carried out again by a reader that waits, it does what it would
have done at first. -/
theorem exec_reader_await {i : Instr} (hi : i.engine = .reader) (s : State) (j : Job) (q : Request) :
    exec i (s.setReader (s.reader.await j q)) = exec i s := by
  cases i with
  | rNew | rReadBit | rReadBits | rIsAligned | rAlign | rGetRef | rGetMut | rGetMutUnchecked | rIntoInner | rRead
  | rDrop => rfl
  | _ => cases hi

/-- A writer command does not look at the response port. -/
theorem exec_writer_await {i : Instr} (hi : i.engine = .writer) (s : State) (j : Job) (q : Request) :
    exec i (s.setWriter (s.writer.await j q)) = exec i s := by
  cases i with
  | wNew | wWriteBit | wWriteBits | wIsAligned | wAlign | wGetRef | wGetMut | wGetMutUnchecked | wIntoInner | wWrite
  | wFlush | wDrop => rfl
  | _ => cases hi

theorem Reader.Run.eq_of_waiting {r v : Reader} {i : Instr} (h : r.Run i v) (waits : v.rsp.isWaiting = true) :
    ∃ len, v = (r.setPort r.port.silent).await (.command i) (.srcRead len) := by
  cases h with
  | waits => exact ⟨_, rfl⟩
  | refused | failed | fetched | quiet => cases waits

/-- A writer command that waits for the sink has changed nothing, or is `W_FLUSH` once its partial byte is in the
sink. -/
theorem Writer.Run.eq_of_waiting {p : Params} {w v : Writer} {i : Instr} (h : w.Run p i v) {j : Job} {q : Request}
    (waits : v.rsp = .waiting j q) (hq : ∀ len, q ≠ .dataIn len) :
    (∃ xs, q = .snkWrite xs ∧ v = (w.setPort w.port.silent).await (.command i) q) ∨
      (q = .snkFlush ∧ i = .wFlush ∧ w.attached = true ∧ ∃ u, w.Flushed u ∧ v = u.awaitFlush) := by
  cases h with
  | short =>
    cases waits
    exact absurd rfl (hq _)
  | waits =>
    cases waits
    exact .inl ⟨_, rfl, rfl⟩
  | flushes command att flushed =>
    obtain ⟨-, e⟩ | ⟨-, e⟩ | ⟨_, -, e⟩ := Writer.requestFlush_cases _ <;> rw [e] at waits ⊢ <;> cases waits
    exact .inr ⟨rfl, command, att, _, flushed, rfl⟩
  | refused | failed | unwrapFailed | written | quiet => cases waits

/-- A late answer of the sink carries the outstanding command out again, with the answer as the port's next. -/
theorem sinkAnswers_await {i : Instr} (hi : i.engine = .writer) {s : State} {q : Request}
    (hq : q = .snkFlush ∨ ∃ xs, q = .snkWrite xs) (d : SnkDraw) :
    sinkAnswers d (s.setWriter (s.writer.await (.command i) q)) =
      exec i (s.setWriter (s.writer.setPort (s.writer.port.decide d))) := by
  have again := exec_writer_await hi (s.setWriter (s.writer.setPort (s.writer.port.decide d))) (.command i) q
  obtain rfl | ⟨xs, rfl⟩ := hq
  · exact again
  · exact again

/-- `W_FLUSH` whose partial byte the sink takes does what `W_FLUSH` of the flushed writer does. -/
theorem exec_wFlush_of_taken {s : State} (att : s.writer.attached = true) (ho : s.writer.off ≠ 0)
    (answer : s.writer.port.answer [s.writer.buf] = some (.ack 1)) :
    exec .wFlush s = exec .wFlush (s.setWriter s.writer.byteTaken) := by
  rw [exec_wFlush_of_attached att, exec_wFlush_of_attached (s := s.setWriter s.writer.byteTaken) att,
    Writer.flushPartial_of_unaligned ho, Writer.sinkByte_of_ack answer,
    Writer.flushPartial_of_aligned (w := (s.setWriter s.writer.byteTaken).writer) rfl]
  rfl

/-- Settles O59: the outstanding command is carried out again from the state in which it waits. That is the state in
which it was given, but for `W_FLUSH` once its byte write is done, and then the byte is not written twice
(`exec_wFlush_of_taken`). -/
theorem lateAnswerCompletesCommand : Obligations.LateAnswerCompletesCommand := by
  refine ⟨fun i s t d rest hi e waits => ?_, fun i s t q d rest hi e waits hq => ?_⟩
  · obtain ⟨r, hr, rfl⟩ := readerRun_of_exec hi e
    obtain ⟨len, rfl⟩ := hr.eq_of_waiting waits
    exact exec_reader_await hi ((s.setHost rest).setReader (s.reader.setPort (s.reader.port.silent.decide d)))
      (.command i) (.srcRead len)
  · obtain ⟨w, hw, rfl⟩ := writerRun_of_exec hi e
    obtain ⟨xs, rfl, rfl⟩ | ⟨rfl, rfl, att, u, hu, rfl⟩ := hw.eq_of_waiting waits hq
    · exact sinkAnswers_await hi (s := (s.setHost rest).setWriter (s.writer.setPort s.writer.port.silent))
        (.inr ⟨xs, rfl⟩) d
    · have again := sinkAnswers_await hi (s := (s.setHost rest).setWriter (u.setPort u.port.silent)) (.inl rfl) d
      dsimp only
      cases hu with
      | aligned ho =>
        rw [if_neg fun h => h.2 ho]
        exact again
      | written ho =>
        rw [if_pos ⟨rfl, ho⟩]
        have taken := exec_wFlush_of_taken (s := (s.setHost rest).setWriter (s.writer.setPort
          { s.writer.port with
            draws := .accept 1 :: d :: s.writer.port.draws.tail.tail, drawn := s.writer.port.drawn + 1 })) att ho
        exact again.trans (taken (SnkPort.answer_of_accept rfl le_rfl)).symm

end Sys2Proof.Machine
end

section
/-! SUPPORT. Power-on reset as a move (70_reset_and_hazards.md R260, R262). -/

namespace Sys2Proof.Machine

/-- The step takes the reset off the list and makes nothing but the reset of the two engines, waiting or not. -/
theorem step_powerOnReset {s : State} {rest : List HostMove} (h : s.host = .powerOnReset :: rest) :
    step s = .next (((s.setHost rest).setReader s.reader.powerOn).setWriter s.writer.powerOn) :=
  step_of_host h

/-- Settles O11: the step resets the two engines (`step_powerOnReset`), and an engine's reset gives its registers their
power-on values and keeps its port and what it has released. -/
theorem powerOnResetMakesNoTransfer : Obligations.PowerOnResetMakesNoTransfer := by
  intro s rest hhost
  refine ⟨_, step_powerOnReset hhost, ?_⟩
  simp [Config.defaultCapacity]

end Sys2Proof.Machine
end
